-- ==== Sys2Proof/Word.lean ====
section
/-! DEFINITION. The widths of the Kleira MT19937 core (spec/00_scope.md R8, R9, R10): bytes, 32-bit words and
units, 40-bit command words. Every value is unsigned (R10); indices and counts are natural numbers. -/

namespace Sys2Proof

/-- A byte, 8 bits (R10). -/
abbrev Byte := BitVec 8

/-- A word of `W` = 32 bits (R8): a seed, a twister word, an output word, a response's data, or a *unit*, the
32-bit value that stands for one character of a text stream (R10, R12). -/
abbrev Word := BitVec 32

/-- A command word, `CMDW` = 40 bits (R9, R72): opcode byte in bits 39:32, operand in bits 31:0. -/
abbrev Cmd := BitVec 40

/-- Four bytes gathered into a word, the first in the least significant place: the one byte order of the block
(R53 for the seed, R54 inside MD5, R55 for a packed code). -/
def leWord (b0 b1 b2 b3 : Byte) : Word :=
  b0.setWidth 32 ||| (b1.setWidth 32 <<< 8) ||| (b2.setWidth 32 <<< 16) ||| (b3.setWidth 32 <<< 24)

/-- Byte `j` of a word, counted from the least significant end. -/
def byteOf (w : Word) (j : Nat) : Byte := w.extractLsb' (8 * j) 8

end Sys2Proof
end

