-- ==== Sys2Proof/Config.lean ====
section
/-! DEFINITION. What an implementation fixes and the spec leaves open: the code alphabet (spec/00_scope.md R9,
spec/10_state.md R34, decision D17), and the FREE VALUES: what reset leaves in the elements whose reset value is
unspecified (R42, R201, U3), and what a read of the twister array beyond its 624 words would give (a cursor value the
spec says never occurs, R23). The three constants are opaque and have no body: nothing can be proved of their
values beyond what their types say. -/

namespace Sys2Proof

/-! ## The code alphabet -/

/-- `0x41` to `0x5A` (R9). -/
def isUpperByte (b : Byte) : Bool := 0x41 ≤ b.toNat && b.toNat ≤ 0x5A

/-- `0x61` to `0x7A` (R9). -/
def isLowerByte (b : Byte) : Bool := 0x61 ≤ b.toNat && b.toNat ≤ 0x7A

/-- `0x30` to `0x39` (R9). -/
def isDigitByte (b : Byte) : Bool := 0x30 ≤ b.toNat && b.toNat ≤ 0x39

/-- The printable ASCII punctuation of R9: `0x21` to `0x2F`, `0x3A` to `0x40`, `0x5B` to `0x60`, `0x7B` to `0x7E`. -/
def isPunctByte (b : Byte) : Bool :=
  (0x21 ≤ b.toNat && b.toNat ≤ 0x2F) || (0x3A ≤ b.toNat && b.toNat ≤ 0x40) ||
  (0x5B ≤ b.toNat && b.toNat ≤ 0x60) || (0x7B ≤ b.toNat && b.toNat ≤ 0x7E)

/-- No two entries of a list of bytes are equal. -/
def distinctBytes : List Byte → Bool
  | [] => true
  | b :: bs => !bs.contains b && distinctBytes bs

/-- The whole constraint R9 puts on `CODE_ALPHABET`: the 78 entries are pairwise distinct, and 26 are upper-case
letters, 26 lower-case letters, 10 digits and 16 punctuation bytes. Nothing else is assumed of it. -/
def legalAlphabet (bs : List Byte) : Bool :=
  distinctBytes bs && bs.countP isUpperByte == 26 && bs.countP isLowerByte == 26 &&
  bs.countP isDigitByte == 10 && bs.countP isPunctByte == 16

/-- The bytes of `EXAMPLE_ALPHABET` of spec/95_test_vectors.md, index 0 first. It serves only to show that a legal
alphabet exists and, in the model's own tests, to give an operation a concrete alphabet; no definition of the machine
uses it. -/
def exampleBytes : List Byte :=
  (List.range 26).map (fun i => BitVec.ofNat 8 (0x41 + i)) ++
  (List.range 26).map (fun i => BitVec.ofNat 8 (0x61 + i)) ++
  (List.range 10).map (fun i => BitVec.ofNat 8 (0x30 + i)) ++
  [0x21, 0x40, 0x23, 0x24, 0x25, 0x5E, 0x26, 0x2A, 0x28, 0x29, 0x2D, 0x5F, 0x3D, 0x2B, 0x5B, 0x5D]

/-- A code alphabet: 78 bytes together with the proof that they satisfy R9. The default values of the two fields
are the existence witness that lets `Config.codeAlphabet` be declared without a body. -/
structure CodeAlphabet where
  /-- The entries, index 0 to 77 (R34). -/
  bytes : Vector Byte 78 := ⟨⟨exampleBytes⟩, by decide⟩
  /-- The constraint of R9. -/
  legal : legalAlphabet bytes.toList = true := by decide +kernel
deriving Inhabited

/-- `CODE_ALPHABET` (R9, R34): SOME legal alphabet, the same before and after reset (R201). Its order and its 16
punctuation bytes are given by no source, so nothing here gives them either. -/
opaque Config.codeAlphabet : CodeAlphabet

/-! ## Free values -/

/-- One value for each element whose reset value is unspecified (R42): the twister array, the hash chaining
registers, the block buffer and its fill, the length counter, the seed register and the code table. -/
structure ResetContents where
  /-- `MT[0..623]` (R22). -/
  mt : Vector Word 624
  /-- `HA` (R25). -/
  ha : Word
  /-- `HB` (R25). -/
  hb : Word
  /-- `HC` (R25). -/
  hc : Word
  /-- `HD` (R25). -/
  hd : Word
  /-- `HBUF[0..63]` (R26). -/
  hbuf : Vector Byte 64
  /-- `HFILL` (R26). -/
  hfill : BitVec 6
  /-- `HLEN` (R27). -/
  hlen : BitVec 64
  /-- `SEED` (R29). -/
  seed : Word
  /-- `CT[0..34][0..3]` (R30). -/
  ct : Vector (Vector Byte 4) 35
deriving DecidableEq, Repr, Inhabited

/-- What a reset leaves in the unspecified elements: "reset may leave them as they were, clear them or set them to
anything" (R201), "not necessarily the same at two resets" (R42). It depends on how many resets there were before
and on what the elements held. -/
opaque Config.resetContents : Nat → ResetContents → ResetContents

/-- What reading `MT` at a cursor of 624 or more would give. The spec gives no value and says such a cursor never
occurs (R23); the invariant of R39 item 1 shows that no run reads it. -/
opaque Config.mtBeyond : BitVec 10 → Word

end Sys2Proof
end

