-- ==== Sys2Proof/Machine/State.lean ====
section
/-! DEFINITION. The state of the block (spec/10_state.md), the statuses and responses of its response port
(spec/30_encoding.md R71), the events of its host (spec/30_encoding.md R70, spec/70_reset_and_hazards.md R200, R202),
the reset state (R42, R201), and the reasons a step can stop: none for a command of the spec (R180). -/

namespace Sys2Proof.Machine

/-! ## Responses -/

/-- The six error statuses (R71, R181). -/
inductive ErrStatus where
  /-- 8: the opcode byte is not one of the ten. -/
  | eIllegal
  /-- 9: a must-be-zero operand field is not zero, or the CSR number does not exist. -/
  | eOperand
  /-- 10: a hash command that needs an open message while `HOPEN = 0`. -/
  | eHstate
  /-- 11: a command that reads `SEED` while `SEEDVALID = 0`. -/
  | eNoseed
  /-- 12: a command that reads `MT` while `MTVALID = 0`. -/
  | eNomt
  /-- 13: a command that reads `CT` while `GRIDVALID = 0`. -/
  | eNogrid
deriving DecidableEq, Repr

/-- The ten statuses (R71, R180): four result statuses and the error class. Codes 4 to 7, 14 and 15 are never
produced, so they are no values of this type (U6). -/
inductive Status where
  /-- 0: the command did what its rule says. -/
  | ok
  /-- 1: `XLATE` only, the unit passes through. -/
  | pass
  /-- 2: `CODEFOR` only, the operand is not a symbol. -/
  | absent
  /-- 3: `SYMAT` only, row or column out of range. -/
  | bounds
  /-- 8 to 13: an error. -/
  | error (e : ErrStatus)
deriving DecidableEq, Repr

/-- One response: a status and 32 bits of data (R71). -/
structure Response where
  /-- `rsp[35:32]`. -/
  status : Status
  /-- `rsp[31:0]`. -/
  data : Word
deriving DecidableEq, Repr

/-! ## The host's side of the ports -/

/-- What can reach the block from outside (R191: the only inputs are commands and `rst`). -/
inductive HostEvent where
  /-- A command word is accepted and its response delivered (R70): one atomic step (R59). -/
  | command (w : Cmd)
  /-- `rst` is asserted between a response and the next command (R200). -/
  | reset
  /-- A command word is accepted and `rst` is asserted before its response is delivered: the command is abandoned,
  without effect and without response, and the block enters the reset state (R202). -/
  | abandoned (w : Cmd)
deriving DecidableEq, Repr

/-! ## The state -/

/-- Every piece of state the spec gives the block (spec/10_state.md R22 to R32, R42), and, after them, three fields
of the MODEL's own: what the host has still to present, the responses delivered so far, and a count of resets that
selects the free value of each. -/
structure State where
  /-- `MT[0..623]`, the twister array (R22). -/
  mt : Vector Word 624
  /-- `IDX`, the 10-bit cursor (R23). -/
  idx : BitVec 10
  /-- `MTVALID` (R24). -/
  mtValid : Bool
  /-- `HA` (R25). -/
  ha : Word
  /-- `HB` (R25). -/
  hb : Word
  /-- `HC` (R25). -/
  hc : Word
  /-- `HD` (R25). -/
  hd : Word
  /-- `HBUF[0..63]`, the message block buffer (R26). -/
  hbuf : Vector Byte 64
  /-- `HFILL`, the number of bytes in it (R26). -/
  hfill : BitVec 6
  /-- `HLEN`, the count of message bytes (R27). -/
  hlen : BitVec 64
  /-- `HOPEN` (R28). -/
  hopen : Bool
  /-- `SEED` (R29). -/
  seed : Word
  /-- `SEEDVALID` (R29). -/
  seedValid : Bool
  /-- `CT[0..34][0..3]`, the code table (R30). -/
  ct : Vector (Vector Byte 4) 35
  /-- `GRIDVALID` (R31). -/
  gridValid : Bool
  /-- `ERR`, sticky (R32). -/
  err : Bool
  /-- `ERRINFO.ERRCODE` (R32, R38). -/
  errCode : BitVec 4
  /-- `ERRINFO.ERROP` (R32, R38). -/
  errOp : BitVec 8
  /-- The model's own: what the host presents from now on, in order (R70: "its input is the list of accepted command
  words"). -/
  events : List HostEvent
  /-- The model's own: the responses delivered so far, oldest first (R70: "its output the list of delivered
  responses"). -/
  responses : List Response
  /-- The model's own: how many resets this state has seen, the argument of the free value `Config.resetContents`.
  DESIGN CHOICE of notes/assumptions/2.md. -/
  resets : Nat
deriving DecidableEq, Repr

/-- The block right after reset (R42, R201): the flags, the error record and `IDX` are 0 as the spec says. For the
elements the spec leaves unspecified the model names zero (DESIGN CHOICE, notes/assumptions/1.md); no response depends
on them (R45). Nothing is presented yet and nothing has been answered. -/
def State.reset : State where
  mt := Vector.replicate 624 0#32
  idx := 0#10
  mtValid := false
  ha := 0#32
  hb := 0#32
  hc := 0#32
  hd := 0#32
  hbuf := Vector.replicate 64 0#8
  hfill := 0#6
  hlen := 0#64
  hopen := false
  seed := 0#32
  seedValid := false
  ct := Vector.replicate 35 (Vector.replicate 4 0#8)
  gridValid := false
  err := false
  errCode := 0#4
  errOp := 0#8
  events := []
  responses := []
  resets := 0

/-! ## Why a step can stop -/

/-- There is no fault. "There is no command word and no state for which the block hangs, produces no response,
produces two, or produces a response these rules do not determine" (R180); "there is no double-fault state, no
lockup, no halt" (R189). The spec's errors are responses of a completed command (R187), not faults. Safe: a type
without values lets no step stop. -/
inductive Fault where
deriving DecidableEq, Repr

/-- Why a command has no meaning in the model. -/
inductive Refusal where
  /-- Raised by an arm of `exec` whose instruction is not modelled; no arm of this model raises it. Safe: it stops
  the run. -/
  | notModelled (mnemonic : String)
deriving DecidableEq, Repr

end Sys2Proof.Machine
end

