-- ==== Sys2Proof/Machine/Rom.lean ====
section
/-! DEFINITION. The read-only tables and constants of the block, which are not state (spec/10_state.md R33, R35, R43):
the symbol ROM, the MD5 tables (spec/40_hash_seed_derivation.md R101, R103, R104) and the constants of
spec/00_scope.md R8 that the twister and the grid builder use. -/

namespace Sys2Proof.Machine

/-! ## The symbol ROM -/

/-- `SYM[0..34]` (R33): the 35 symbols `A` to `Z`, `1` to `9` as ASCII bytes, row-major on the 7 x 5 grid. -/
def symRom : Vector Byte 35 := #v[
  0x41, 0x42, 0x43, 0x44, 0x45,
  0x46, 0x47, 0x48, 0x49, 0x4A,
  0x4B, 0x4C, 0x4D, 0x4E, 0x4F,
  0x50, 0x51, 0x52, 0x53, 0x54,
  0x55, 0x56, 0x57, 0x58, 0x59,
  0x5A, 0x31, 0x32, 0x33, 0x34,
  0x35, 0x36, 0x37, 0x38, 0x39]

/-! ## MD5 -/

/-- `IV_A` (R101). -/
def md5IvA : Word := 0x67452301
/-- `IV_B` (R101). -/
def md5IvB : Word := 0xefcdab89
/-- `IV_C` (R101). -/
def md5IvC : Word := 0x98badcfe
/-- `IV_D` (R101). -/
def md5IvD : Word := 0x10325476

/-- `K[0..63]` (R103). -/
def md5K : Vector Word 64 := #v[
  0xd76aa478, 0xe8c7b756, 0x242070db, 0xc1bdceee,
  0xf57c0faf, 0x4787c62a, 0xa8304613, 0xfd469501,
  0x698098d8, 0x8b44f7af, 0xffff5bb1, 0x895cd7be,
  0x6b901122, 0xfd987193, 0xa679438e, 0x49b40821,
  0xf61e2562, 0xc040b340, 0x265e5a51, 0xe9b6c7aa,
  0xd62f105d, 0x02441453, 0xd8a1e681, 0xe7d3fbc8,
  0x21e1cde6, 0xc33707d6, 0xf4d50d87, 0x455a14ed,
  0xa9e3e905, 0xfcefa3f8, 0x676f02d9, 0x8d2a4c8a,
  0xfffa3942, 0x8771f681, 0x6d9d6122, 0xfde5380c,
  0xa4beea44, 0x4bdecfa9, 0xf6bb4b60, 0xbebfbc70,
  0x289b7ec6, 0xeaa127fa, 0xd4ef3085, 0x04881d05,
  0xd9d4d039, 0xe6db99e5, 0x1fa27cf8, 0xc4ac5665,
  0xf4292244, 0x432aff97, 0xab9423a7, 0xfc93a039,
  0x655b59c3, 0x8f0ccc92, 0xffeff47d, 0x85845dd1,
  0x6fa87e4f, 0xfe2ce6e0, 0xa3014314, 0x4e0811a1,
  0xf7537e82, 0xbd3af235, 0x2ad7d2bb, 0xeb86d391]

/-- The four patterns of rotation counts, one for each round of 16 steps (R104). -/
def md5ShiftRounds : Vector (Vector Nat 4) 4 := #v[
  #v[7, 12, 17, 22],
  #v[5, 9, 14, 20],
  #v[4, 11, 16, 23],
  #v[6, 10, 15, 21]]

/-- `S[i]`: the element at position `i mod 4` of the pattern of round `floor(i / 16)` (R104). -/
def md5S (i : Fin 64) : Nat :=
  (md5ShiftRounds[i.val / 16]'(by omega))[i.val % 4]'(by omega)

/-! ## The constants of R8 -/

/-- `F_MUL` (R8): 1812433253. -/
def fMul : Word := 0x6C078965
/-- `UPPER_MASK` (R8). -/
def upperMask : Word := 0x80000000
/-- `LOWER_MASK` (R8). -/
def lowerMask : Word := 0x7fffffff
/-- `MATRIX_A` (R8). -/
def matrixA : Word := 0x9908b0df
/-- `TEMPER_B` (R8). -/
def temperB : Word := 0x9d2c5680
/-- `TEMPER_C` (R8). -/
def temperC : Word := 0xefc60000

end Sys2Proof.Machine
end

