-- ==== Sys2Proof/Machine/Operands.lean ====
section
/-! DEFINITION. How operands and drawn words become indices (spec/20_memory.md R52): the cell of a row and a column,
the symbol index of a unit, the uppercase fold, the code index of a drawn word, and the packing of a code into a word
(R55). -/

namespace Sys2Proof.Machine

/-- The symbol index of a cell, `k = row * 5 + col` (R52, R141). -/
def gridCell (row : Fin 7) (col : Fin 5) : Fin 35 := ⟨row.val * 5 + col.val, by omega⟩

/-- The cell the operands of `SYMAT` name, or nothing out of bounds: the two bounds are tested separately (R146). -/
def cellIndex (row col : BitVec 16) : Option (Fin 35) :=
  if h : row.toNat < 7 ∧ col.toNat < 5 then some (gridCell ⟨row.toNat, h.1⟩ ⟨col.toNat, h.2⟩) else none

/-- `Upcase(u)` (R155): the ASCII fold of `0x61` to `0x7A`, every other value itself. -/
def upcase (u : Word) : Word := if 0x61 ≤ u.toNat ∧ u.toNat ≤ 0x7A then u - 0x20#32 else u

/-- `SymIndex(u)` (R156): the position of a unit among the 35 symbols, or nothing. The whole 32-bit value is
compared. -/
def symIndex (u : Word) : Option (Fin 35) :=
  if h : 0x41 ≤ u.toNat ∧ u.toNat ≤ 0x5A then some ⟨u.toNat - 0x41, by omega⟩
  else if h : 0x31 ≤ u.toNat ∧ u.toNat ≤ 0x39 then some ⟨26 + (u.toNat - 0x31), by omega⟩
  else none

/-- The code index of a drawn word, `w mod 78` (R143): the remainder of the unsigned 32-bit value. -/
def codeIndex (w : Word) : Fin 78 := ⟨w.toNat % 78, Nat.mod_lt _ (by decide)⟩

/-- `CodeChar(w)` (R143): the character of the code alphabet at the code index of `w`. -/
def codeChar (ca : CodeAlphabet) (w : Word) : Byte := ca.bytes[codeIndex w]

/-- `Pack(code)` (R55): the first character of the code in bits 7:0, the fourth in bits 31:24. -/
def pack (code : Vector Byte 4) : Word := leWord code[0] code[1] code[2] code[3]

end Sys2Proof.Machine
end

