-- ==== Sys2Proof/Syntax.lean ====
section
/-! DEFINITION. The KMC command set, version 1 (spec/30_encoding.md R72): ten commands, one constructor for each row
of spec/opcode_table.json. There is no branch, no no-operation and no other command (R79, R82). -/

namespace Sys2Proof

/-- The ten commands with their operands as the operand formats R73 to R77 give them. -/
inductive Instr where
  /-- `RDCSR n` (R170, format N): read control and status register `n`. -/
  | rdcsr (n : BitVec 2)
  /-- `HINIT` (R102, format Z): open a new hash message. -/
  | hinit
  /-- `HBYTE b` (R106, format B): append one byte to the open message. -/
  | hbyte (b : Byte)
  /-- `HFIN` (R108, format Z): pad, finish the digest, take the seed. -/
  | hfin
  /-- `MTSEED s` (R122, format W): construct the generator from a seed. -/
  | mtseed (w : Word)
  /-- `MTNEXT` (R127, format Z): extract the next tempered word. -/
  | mtnext
  /-- `GBUILD` (R142, format Z): seed the twister from `SEED`, draw 140 words, store the 35 codes. -/
  | gbuild
  /-- `SYMAT row, col` (R146, format RC): the symbol at a cell of the grid. -/
  | symat (row col : BitVec 16)
  /-- `CODEFOR u` (R147, format W): the code of a symbol. -/
  | codefor (w : Word)
  /-- `XLATE u` (R157, format W): transform one character. -/
  | xlate (w : Word)
deriving DecidableEq, Repr

end Sys2Proof
end

