-- ==== Sys2Proof/Decode.lean ====
section
/-! DEFINITION. Decoding and encoding of command words (spec/30_encoding.md sections 2 to 4): total on all `2^40`
words, in the order of R78 (opcode byte, then operand), rejecting by name; and the encoder written from the same
tables. -/

namespace Sys2Proof

/-- Why a word is not a command. Both are defined behaviour of the block, an error response (R79, R80), and carry the
opcode byte that the error record keeps (R185). -/
inductive DecodeError where
  /-- The opcode byte is not one of the ten: `E_ILLEGAL` (R79). -/
  | illegal (op : Byte)
  /-- The opcode is defined and a must-be-zero field is not zero, or the CSR number does not exist: `E_OPERAND`
  (R80). -/
  | operand (op : Byte)
deriving DecidableEq, Repr

/-- `cmd[39:32]`, the opcode byte (R72). -/
def opField (c : Cmd) : Byte := c.extractLsb' 32 8

/-- `cmd[31:0]`, the operand (R72). -/
def argField (c : Cmd) : Word := c.extractLsb' 0 32

/-- The opcode byte of each command (R72). -/
def Instr.opcode : Instr → Byte
  | .rdcsr _ => 0x01#8
  | .hinit => 0x10#8
  | .hbyte _ => 0x11#8
  | .hfin => 0x12#8
  | .mtseed _ => 0x20#8
  | .mtnext => 0x21#8
  | .gbuild => 0x30#8
  | .symat _ _ => 0x31#8
  | .codefor _ => 0x32#8
  | .xlate _ => 0x40#8

/-- Format Z (R73): `arg[31:0]` must be 0. -/
def decodeZ (op : Byte) (arg : Word) (i : Instr) : Except DecodeError Instr :=
  if arg = 0#32 then .ok i else .error (.operand op)

/-- Format B (R74): the byte in `arg[7:0]`; `arg[31:8]` must be 0. -/
def decodeB (op : Byte) (arg : Word) (mk : Byte → Instr) : Except DecodeError Instr :=
  if arg.extractLsb' 8 24 = 0#24 then .ok (mk (arg.extractLsb' 0 8)) else .error (.operand op)

/-- Format N (R77): the CSR number in `arg[1:0]`; any `arg >= 3` is refused. -/
def decodeN (op : Byte) (arg : Word) (mk : BitVec 2 → Instr) : Except DecodeError Instr :=
  if arg.toNat < 3 then .ok (mk (arg.extractLsb' 0 2)) else .error (.operand op)

/-- Format RC (R76): `row = arg[31:16]`, `col = arg[15:0]`, every operand legal. -/
def decodeRC (arg : Word) (mk : BitVec 16 → BitVec 16 → Instr) : Except DecodeError Instr :=
  .ok (mk (arg.extractLsb' 16 16) (arg.extractLsb' 0 16))

/-- Format W (R75): `w = arg[31:0]`, every operand legal. -/
def decodeW (arg : Word) (mk : Word → Instr) : Except DecodeError Instr := .ok (mk arg)

/-- The decoder of R78: opcode byte first, then the operand by the command's format. -/
def decode (c : Cmd) : Except DecodeError Instr :=
  if opField c = 0x01#8 then decodeN 0x01#8 (argField c) .rdcsr
  else if opField c = 0x10#8 then decodeZ 0x10#8 (argField c) .hinit
  else if opField c = 0x11#8 then decodeB 0x11#8 (argField c) .hbyte
  else if opField c = 0x12#8 then decodeZ 0x12#8 (argField c) .hfin
  else if opField c = 0x20#8 then decodeW (argField c) .mtseed
  else if opField c = 0x21#8 then decodeZ 0x21#8 (argField c) .mtnext
  else if opField c = 0x30#8 then decodeZ 0x30#8 (argField c) .gbuild
  else if opField c = 0x31#8 then decodeRC (argField c) .symat
  else if opField c = 0x32#8 then decodeW (argField c) .codefor
  else if opField c = 0x40#8 then decodeW (argField c) .xlate
  else .error (.illegal (opField c))

/-! ## The encoder -/

/-- The operand word of a command (R73 to R77). -/
def Instr.operandWord : Instr → Word
  | .rdcsr n => 0#30 ++ n
  | .hinit => 0#32
  | .hbyte b => 0#24 ++ b
  | .hfin => 0#32
  | .mtseed w => w
  | .mtnext => 0#32
  | .gbuild => 0#32
  | .symat row col => row ++ col
  | .codefor w => w
  | .xlate w => w

/-- The command word of a command: `cmd[39:32] = op`, `cmd[31:0] = arg` (R72). -/
def encode (i : Instr) : Cmd := i.opcode ++ i.operandWord

/-- The command word whose low `nbits` bits are those of `w` and whose other bits are 0, numbered as
spec/opcode_table.json numbers them (bit 0 the least significant bit of the one 40-bit word). A command is presented
in parallel, all 40 bits at once (R56), so no byte order enters. -/
def tableWord (nbits w : Nat) : Cmd := BitVec.ofNat 40 (w % 2 ^ nbits)

/-- The instruction the decoder reads from a table word; `none` where it refuses, and for a claimed length above the
one command length of 40 bits (R81). -/
def decodeTableWord (nbits w : Nat) : Option Instr :=
  if nbits ≤ 40 then
    match decode (tableWord nbits w) with
    | .ok i => some i
    | .error _ => none
  else none

end Sys2Proof
end

