-- ==== Sys2Proof/Machine/Ops.lean ====
section
/-! DEFINITION. The operations every command shares: counted loops (spec/00_scope.md R11), ending a command with a
response (R71), raising an error (spec/60_exceptions.md R185: this block's whole exception entry, from which there is
no return, R187), and the reset transition (spec/70_reset_and_hazards.md R200, R201). -/

namespace Sys2Proof.Machine

/-! ## Loops -/

/-- The first `k` runs of `for i in 0..n-1`, each seeing every write of the runs before it (R11). -/
def forFin {σ : Type} {n : Nat} (f : Fin n → σ → σ) : (k : Nat) → k ≤ n → σ → σ
  | 0, _, s => s
  | k + 1, h, s => f ⟨k, h⟩ (forFin f k (Nat.le_of_succ_le h) s)

/-- `for i in 0..n-1` in ascending order, both ends included (R11). -/
def loop {σ : Type} (n : Nat) (f : Fin n → σ → σ) (s : σ) : σ := forFin f n (Nat.le_refl n) s

/-! ## Statuses and responses -/

/-- The 4-bit code of an error status (R71, R181). -/
def ErrStatus.code : ErrStatus → BitVec 4
  | .eIllegal => 8#4
  | .eOperand => 9#4
  | .eHstate => 10#4
  | .eNoseed => 11#4
  | .eNomt => 12#4
  | .eNogrid => 13#4

/-- The 4-bit code of a status (R71). -/
def Status.code : Status → BitVec 4
  | .ok => 0#4
  | .pass => 1#4
  | .absent => 2#4
  | .bounds => 3#4
  | .error e => e.code

/-- The 36-bit response word: `rsp[35:32] = status`, `rsp[31:0] = data` (R71). -/
def Response.word (r : Response) : BitVec 36 := r.status.code ++ r.data

/-- `respond(st, d)` (R11): end the command with exactly one response. -/
def respond (s : State) (st : Status) (d : Word) : State := { s with responses := s.responses ++ [⟨st, d⟩] }

/-! ## Errors -/

/-- The record of the first error since reset (R32, R185): while `ERR` is 1 no later error changes it. -/
def recordError (s : State) (e : ErrStatus) (op : Byte) : State :=
  { s with
    err := true
    errCode := if s.err then s.errCode else e.code
    errOp := if s.err then s.errOp else op }

/-- `raise E(op)` (R185, R186): record the error, change no other state, answer status `E` with data 0. -/
def raise (s : State) (e : ErrStatus) (op : Byte) : State := respond (recordError s e op) (.error e) 0#32

/-- What a word that decodes to no command does (R78 to R80). -/
def raiseDecode (s : State) : DecodeError → State
  | .illegal op => raise s .eIllegal op
  | .operand op => raise s .eOperand op

/-! ## Reset -/

/-- What the elements of unspecified reset value hold (R42). -/
def State.contents (s : State) : ResetContents where
  mt := s.mt
  ha := s.ha
  hb := s.hb
  hc := s.hc
  hd := s.hd
  hbuf := s.hbuf
  hfill := s.hfill
  hlen := s.hlen
  seed := s.seed
  ct := s.ct

/-- The reset state of R201 with `c` in the elements it leaves unspecified. What the host has still to present and
what it has already been answered lie outside the block and stay. -/
def resetWith (c : ResetContents) (s : State) : State where
  mt := c.mt
  idx := 0#10
  mtValid := false
  ha := c.ha
  hb := c.hb
  hc := c.hc
  hd := c.hd
  hbuf := c.hbuf
  hfill := c.hfill
  hlen := c.hlen
  hopen := false
  seed := c.seed
  seedValid := false
  ct := c.ct
  gridValid := false
  err := false
  errCode := 0#4
  errOp := 0#8
  events := s.events
  responses := s.responses
  resets := s.resets + 1

/-- The one reset transition (R200), from any state: the unspecified elements take free values (R42, R201), which may
depend on which reset this is and on what the elements held. -/
def applyReset (s : State) : State := resetWith (Config.resetContents s.resets s.contents) s

/-- The state in which the host's next event has been taken from what it presents. -/
def State.withEvents (s : State) (evs : List HostEvent) : State := { s with events := evs }

end Sys2Proof.Machine
end

