-- ==== Sys2Proof/Machine/Twister.lean ====
section
/-! DEFINITION. The twister (spec/41_mt19937_generator.md): seeding (R121), the twist (R123 to R125), tempering (R126),
extraction (R127), and the commands `MTSEED` (R122) and `MTNEXT` (R127). -/

namespace Sys2Proof.Machine

/-! ## Seeding -/

/-- Word `i` of the seeding recurrence from word `i - 1` (R121); products and sums modulo `2^32`. -/
def seedNext (prev : Word) (i : Nat) : Word := fMul * (prev ^^^ (prev >>> 30)) + BitVec.ofNat 32 i

/-- `n` words of the seeded array, the first of them word `i` (R121): each is made from the word before it. -/
def seedFrom : Nat → Nat → Word → List Word
  | 0, _, _ => []
  | n + 1, i, w => w :: seedFrom n (i + 1) (seedNext w (i + 1))

theorem seedFrom_length (n i : Nat) (w : Word) : (seedFrom n i w).length = n := by
  induction n generalizing i w with
  | zero => rfl
  | succ n ih => simp [seedFrom, ih]

/-- `Seed(s)` (R121): all 624 words, `MT[0] = s` and each later word from the one before it. -/
def seedArray (s : Word) : Vector Word 624 := ⟨⟨seedFrom 624 0 s⟩, seedFrom_length 624 0 s⟩

/-! ## The twist -/

/-- `Mix(u, v)` (R123). -/
def mix (u v : Word) : Word :=
  let y := (u &&& upperMask) ||| (v &&& lowerMask)
  if y.getLsbD 0 then (y >>> 1) ^^^ matrixA else y >>> 1

/-- A run of consecutive twist steps: the first list holds the words `MT[i], MT[i+1], …` the steps read (one more
than there are steps), the second the words `MT[(i+397) mod 624], …` they xor in. -/
def twistRun : List Word → List Word → List Word
  | u :: v :: us, t :: ts => (t ^^^ mix u v) :: twistRun (v :: us) ts
  | _, _ => []

theorem twistRun_length (us ts : List Word) :
    (twistRun us ts).length = min (us.length - 1) ts.length := by
  induction us generalizing ts with
  | nil => simp [twistRun]
  | cons u us ih =>
    cases us with
    | nil => simp [twistRun]
    | cons v us =>
      cases ts with
      | nil => simp [twistRun]
      | cons t ts => simp [twistRun, ih]

/-- Words 0 to 226 after the twist: every operand is old (R125, first row). -/
def twistLow (old : List Word) : List Word := twistRun old (old.drop 397)

/-- Words 227 to 453: the words xored in are the new words 0 to 226 (R125, second row). -/
def twistMid (old : List Word) : List Word := twistRun (old.drop 227) (twistLow old)

/-- Words 454 to 623: the words xored in are the new words 227 to 396 (R125, second and third row), and the last step
reads the new word 0 as its word `i + 1` (R125, third row). -/
def twistHigh (old : List Word) : List Word := twistRun (old.drop 454 ++ (twistLow old).take 1) (twistMid old)

theorem twistWords_length (old : List Word) (h : old.length = 624) :
    (twistLow old ++ twistMid old ++ twistHigh old).length = 624 := by
  simp [twistLow, twistMid, twistHigh, twistRun_length, h]

/-- `Twist()` (R124) in the form of R125: the in-place, ascending update of all 624 words, written by the ranges in
which its operands are old or new. That it is the in-place loop of R124 is a statement of the package. -/
def twist (mt : Vector Word 624) : Vector Word 624 :=
  ⟨⟨twistLow mt.toList ++ twistMid mt.toList ++ twistHigh mt.toList⟩, twistWords_length mt.toList (by simp)⟩

/-! ## Tempering and extraction -/

/-- `Temper(y)` (R126). -/
def temper (y : Word) : Word :=
  let y1 := y ^^^ (y >>> 11)
  let y2 := y1 ^^^ ((y1 <<< 7) &&& temperB)
  let y3 := y2 ^^^ ((y2 <<< 15) &&& temperC)
  y3 ^^^ (y3 >>> 18)

/-- The word of `MT` at the cursor. A cursor of 624 or more never occurs (R23, R39 item 1); what such a read would
give is a free value (notes/assumptions/3.md). -/
def readMt (mt : Vector Word 624) (i : BitVec 10) : Word :=
  if h : i.toNat < 624 then mt[i.toNat] else Config.mtBeyond i

/-- `(IDX + 1) mod 624` (R23, R127). -/
def nextIdx (i : BitVec 10) : BitVec 10 := BitVec.ofNat 10 ((i.toNat + 1) % 624)

/-- The array an extraction reads: twisted first when the cursor is 0 (R127). -/
def extractArray (s : State) : Vector Word 624 := if s.idx = 0#10 then twist s.mt else s.mt

/-- The word `Extract()` returns (R127). -/
def extractWord (s : State) : Word := temper (readMt (extractArray s) s.idx)

/-- The state `Extract()` leaves (R127): the array as read, untempered, and the cursor advanced. -/
def extractNext (s : State) : State := { s with mt := extractArray s, idx := nextIdx s.idx }

/-! ## The commands -/

/-- `Seed(s); IDX <- 0; MTVALID <- 1` (R122, R142). -/
def seedTwister (s : State) (w : Word) : State := { s with mt := seedArray w, idx := 0#10, mtValid := true }

/-- `MTSEED s` (R122): no prerequisite, every seed legal. -/
def execMtseed (w : Word) (s : State) : Host.Outcome State Fault Refusal :=
  .next (respond (seedTwister s w) .ok 0#32)

/-- `MTNEXT` (R127): refused while the twister is unseeded. -/
def execMtnext (s : State) : Host.Outcome State Fault Refusal :=
  if s.mtValid then .next (respond (extractNext s) .ok (extractWord s))
  else .next (raise s .eNomt 0x21#8)

end Sys2Proof.Machine
end

