-- ==== Sys2Proof/Machine/Grid.lean ====
section
/-! DEFINITION. The grid builder (spec/42_grid_builder.md): filling the code table (R141 to R143) and the commands
`GBUILD` (R142), `SYMAT` (R146), `CODEFOR` (R147). -/

namespace Sys2Proof.Machine

/-- The code table with byte `j` of entry `k` replaced. -/
def setCode (ct : Vector (Vector Byte 4) 35) (k : Fin 35) (j : Fin 4) (b : Byte) : Vector (Vector Byte 4) 35 :=
  ct.set k.val (ct[k].set j.val b j.isLt) k.isLt

/-- One draw: `w = Extract(); CT[k][j] <- CODE_ALPHABET[w mod 78]` (R142). -/
def drawChar (ca : CodeAlphabet) (s : State) (k : Fin 35) (j : Fin 4) : State :=
  { extractNext s with ct := setCode s.ct k j (codeChar ca (extractWord s)) }

/-- Step 3 of the construction (R141, R142): rows 0 to 6, columns 0 to 4, four consecutive draws for each cell. -/
def fillTable (ca : CodeAlphabet) (s : State) : State :=
  loop 7 (fun row => loop 5 (fun col => loop 4 (fun j t => drawChar ca t (gridCell row col) j))) s

/-- The state with `GRIDVALID` replaced. -/
def State.withGridValid (s : State) (v : Bool) : State := { s with gridValid := v }

/-- What `GBUILD` does once its prerequisite holds, before it responds, for a given code alphabet (R142). -/
def buildGrid (ca : CodeAlphabet) (s : State) : State :=
  (fillTable ca (seedTwister (s.withGridValid false) s.seed)).withGridValid true

/-- `GBUILD` (R142): refused while no seed has been derived. -/
def execGbuild (s : State) : Host.Outcome State Fault Refusal :=
  if s.seedValid then .next (respond (buildGrid Config.codeAlphabet s) .ok 0#32)
  else .next (raise s .eNoseed 0x30#8)

/-- `SYMAT row, col` (R146): the symbol ROM, whether or not a grid has been built. -/
def execSymat (row col : BitVec 16) (s : State) : Host.Outcome State Fault Refusal :=
  match cellIndex row col with
  | some k => .next (respond s .ok (symRom[k].setWidth 32))
  | none => .next (respond s .bounds 0#32)

/-- `CODEFOR u` (R147): the prerequisite before the key, and no case folding. -/
def execCodefor (u : Word) (s : State) : Host.Outcome State Fault Refusal :=
  if s.gridValid then
    match symIndex u with
    | some k => .next (respond s .ok (pack s.ct[k]))
    | none => .next (respond s .absent 0#32)
  else .next (raise s .eNogrid 0x32#8)

end Sys2Proof.Machine
end

