-- ==== Sys2Proof/Machine/Hash.lean ====
section
/-! DEFINITION. The hash kernel (spec/40_hash_seed_derivation.md): the MD5 block compression (R105), `Absorb` (R107)
and the commands `HINIT` (R102), `HBYTE` (R106), `HFIN` (R108). -/

namespace Sys2Proof.Machine

/-! ## The block compression -/

/-- The four chaining registers, or the four working values of a compression (R25, R105). -/
structure Md5Chain where
  /-- `HA`, or `a`. -/
  a : Word
  /-- `HB`, or `b`. -/
  b : Word
  /-- `HC`, or `c`. -/
  c : Word
  /-- `HD`, or `d`. -/
  d : Word
deriving DecidableEq, Repr

/-- `rotl(a, k)` for `0 < k < 32` (R10). -/
def rotl (a : Word) (k : Nat) : Word := (a <<< k) ||| (a >>> (32 - k))

/-- Message word `g` of the block in the buffer, little-endian (R54). -/
def md5Word (buf : Vector Byte 64) (g : Fin 16) : Word :=
  leWord (buf[4 * g.val]) (buf[4 * g.val + 1]) (buf[4 * g.val + 2]) (buf[4 * g.val + 3])

/-- The round function of step `i` (R105). -/
def md5F (i : Fin 64) (b c d : Word) : Word :=
  if i.val ≤ 15 then (b &&& c) ||| (~~~b &&& d)
  else if i.val ≤ 31 then (d &&& b) ||| (~~~d &&& c)
  else if i.val ≤ 47 then b ^^^ c ^^^ d
  else c ^^^ (b ||| ~~~d)

/-- Which message word step `i` takes (R105). -/
def md5G (i : Fin 64) : Fin 16 :=
  if h : i.val ≤ 15 then ⟨i.val, by omega⟩
  else if i.val ≤ 31 then ⟨(5 * i.val + 1) % 16, by omega⟩
  else if i.val ≤ 47 then ⟨(3 * i.val + 5) % 16, by omega⟩
  else ⟨(7 * i.val) % 16, by omega⟩

/-- Step `i` of the compression: the four values change at once, from the old ones (R105). -/
def md5Step (buf : Vector Byte 64) (i : Fin 64) (q : Md5Chain) : Md5Chain where
  a := q.d
  b := q.b + rotl (q.a + md5F i q.b q.c q.d + md5K[i] + md5Word buf (md5G i)) (md5S i)
  c := q.b
  d := q.c

/-- The compression of one block into the chaining values (R105). -/
def md5Compress (q : Md5Chain) (buf : Vector Byte 64) : Md5Chain :=
  let r := loop 64 (md5Step buf) q
  ⟨q.a + r.a, q.b + r.b, q.c + r.c, q.d + r.d⟩

/-- The chaining registers of a state. -/
def State.chain (s : State) : Md5Chain := ⟨s.ha, s.hb, s.hc, s.hd⟩

/-- The state with its chaining registers replaced. -/
def State.withChain (s : State) (q : Md5Chain) : State := { s with ha := q.a, hb := q.b, hc := q.c, hd := q.d }

/-- `Md5Block()` (R105): compress `HBUF` into `HA`, `HB`, `HC`, `HD`. -/
def md5Block (s : State) : State := s.withChain (md5Compress s.chain s.hbuf)

/-! ## Absorbing a byte -/

/-- The state with byte `x` stored at `HBUF[HFILL]` (R52: `HFILL` is at most 63). -/
def storeByte (s : State) (x : Byte) : State := { s with hbuf := s.hbuf.set s.hfill.toNat x s.hfill.isLt }

/-- The state with `HFILL` replaced. -/
def State.withFill (s : State) (n : BitVec 6) : State := { s with hfill := n }

/-- `Absorb(x)` (R107): put one byte into the buffer and compress when the buffer is full. `HLEN` is not touched. -/
def absorb (s : State) (x : Byte) : State :=
  if s.hfill = 63#6 then (md5Block (storeByte s x)).withFill 0#6
  else (storeByte s x).withFill (s.hfill + 1#6)

/-- `while HFILL != 56: Absorb(0x00)`, at most the given number of times (R108). -/
def padZeros : Nat → State → State
  | 0, s => s
  | n + 1, s => if s.hfill = 56#6 then s else padZeros n (absorb s 0x00#8)

/-- Byte `j` of the 64-bit message length, least significant first: `L[8j+7 : 8j]` (R108). -/
def lengthByte (bits : BitVec 64) (j : Fin 8) : Byte := bits.extractLsb' (8 * j.val) 8

/-- The padding of `HFIN` (R108): `0x80`, zero bytes to 56, the bit length. Its `while` runs at most 63 times
(R82). -/
def finalPad (s : State) : State :=
  loop 8 (fun j t => absorb t (lengthByte (s.hlen * 8#64) j)) (padZeros 63 (absorb s 0x80#8))

/-! ## The commands -/

/-- The state `HINIT` leaves, before it responds (R102). -/
def openMessage (s : State) : State :=
  { s with
    ha := md5IvA, hb := md5IvB, hc := md5IvC, hd := md5IvD
    hfill := 0#6, hlen := 0#64, hopen := true, seedValid := false }

/-- The state with one more message byte counted, modulo `2^64` (R27, R106). -/
def countByte (s : State) : State := { s with hlen := s.hlen + 1#64 }

/-- `SEED <- HA; SEEDVALID <- 1; HOPEN <- 0` (R108). -/
def takeSeed (s : State) : State := { s with seed := s.ha, seedValid := true, hopen := false }

/-- `HINIT` (R102). -/
def execHinit (s : State) : Host.Outcome State Fault Refusal := .next (respond (openMessage s) .ok 0#32)

/-- `HBYTE b` (R106): refused while no message is open. -/
def execHbyte (b : Byte) (s : State) : Host.Outcome State Fault Refusal :=
  if s.hopen then .next (respond (countByte (absorb s b)) .ok 0#32)
  else .next (raise s .eHstate 0x11#8)

/-- `HFIN` (R108): refused while no message is open. -/
def execHfin (s : State) : Host.Outcome State Fault Refusal :=
  if s.hopen then .next (respond (takeSeed (finalPad s)) .ok (finalPad s).ha)
  else .next (raise s .eHstate 0x12#8)

end Sys2Proof.Machine
end

