-- ==== Sys2Proof/Machine/Substitution.lean ====
section
/-! DEFINITION. The substitution engine (spec/43_substitution.md): the command `XLATE` (R157). -/

namespace Sys2Proof.Machine

/-- `XLATE u` (R157): the code of the folded unit, or the folded unit itself with status `PASS`. -/
def execXlate (u : Word) (s : State) : Host.Outcome State Fault Refusal :=
  if s.gridValid then
    match symIndex (upcase u) with
    | some k => .next (respond s .ok (pack s.ct[k]))
    | none => .next (respond s .pass (upcase u))
  else .next (raise s .eNogrid 0x40#8)

end Sys2Proof.Machine
end

