-- ==== Sys2Proof/Machine/Flags.lean ====
section
/-! DEFINITION. The flags and the control and status registers made of them (spec/10_state.md R36, R38, R40; the bit
order of spec/44_system.md R170). The block has no arithmetic condition codes (R40). -/

namespace Sys2Proof.Machine

/-- CSR 0, `STATUS` (R36, R170): `{27 zero bits, ERR, GRIDVALID, MTVALID, SEEDVALID, HOPEN}`. Which of
its values runs reach follows from the command rules; on the count in R171 see notes/assumptions/7.md. -/
def statusWord (s : State) : Word :=
  0#27 ++ BitVec.ofBool s.err ++ BitVec.ofBool s.gridValid ++ BitVec.ofBool s.mtValid ++
    BitVec.ofBool s.seedValid ++ BitVec.ofBool s.hopen

/-- CSR 2, `ERRINFO` (R38, R170): `{16 zero bits, ERROP, 4 zero bits, ERRCODE}`. -/
def errInfoWord (s : State) : Word := 0#16 ++ s.errOp ++ 0#4 ++ s.errCode

end Sys2Proof.Machine
end

