-- ==== Sys2Proof/Machine/System.lean ====
section
/-! DEFINITION. The system command `RDCSR` (spec/44_system.md R170) and the three control and status registers it
reads (spec/10_state.md R36 to R38). -/

namespace Sys2Proof.Machine

/-- `RDCSR n` (R170): `STATUS`, `SEED` (refused while `SEEDVALID` is 0), `ERRINFO`. CSR number 3 does not exist; the
decoder never yields it (R77), and the term that names it ends as that encoding does, in `E_OPERAND`. -/
def execRdcsr (n : BitVec 2) (s : State) : Host.Outcome State Fault Refusal :=
  if n = 0#2 then .next (respond s .ok (statusWord s))
  else if n = 1#2 then
    if s.seedValid then .next (respond s .ok s.seed) else .next (raise s .eNoseed 0x01#8)
  else if n = 2#2 then .next (respond s .ok (errInfoWord s))
  else .next (raise s .eOperand 0x01#8)

end Sys2Proof.Machine
end

