-- ==== Sys2Proof/Machine/Dispatch.lean ====
section
/-! DEFINITION. The meaning of each command: one arm for each constructor of `Instr` (spec/30_encoding.md R72). -/

namespace Sys2Proof.Machine

/-- Execute one decoded command: its whole effect and its one response (R59, R180). -/
def exec (i : Instr) (s : State) : Host.Outcome State Fault Refusal :=
  match i with
  | .rdcsr n => Sys2Proof.Machine.execRdcsr n s
  | .hinit => Sys2Proof.Machine.execHinit s
  | .hbyte b => Sys2Proof.Machine.execHbyte b s
  | .hfin => Sys2Proof.Machine.execHfin s
  | .mtseed w => Sys2Proof.Machine.execMtseed w s
  | .mtnext => Sys2Proof.Machine.execMtnext s
  | .gbuild => Sys2Proof.Machine.execGbuild s
  | .symat row col => Sys2Proof.Machine.execSymat row col s
  | .codefor w => Sys2Proof.Machine.execCodefor w s
  | .xlate w => Sys2Proof.Machine.execXlate w s

end Sys2Proof.Machine
end

