-- ==== Sys2Proof/Machine/Step.lean ====
section
/-! DEFINITION. One step of the block: one host event (spec/20_memory.md R59, spec/70_reset_and_hazards.md R208: "a
step is a command"). There is no program counter (spec/10_state.md R21): the next command is the next one the host
presents (spec/30_encoding.md R82). -/

namespace Sys2Proof.Machine

/-- What an accepted command word does: decode it (R78), then execute it or raise the decoder's error. -/
def stepCommand (w : Cmd) (s : State) : Host.Outcome State Fault Refusal :=
  match decode w with
  | .ok i => exec i s
  | .error e => .next (raiseDecode s e)

/-- One step: take the host's next event. While the host presents nothing the block holds its state (R213). -/
def step (s : State) : Host.Outcome State Fault Refusal :=
  match s.events with
  | [] => .next s
  | .command w :: rest => stepCommand w (s.withEvents rest)
  | .reset :: rest => .next (applyReset (s.withEvents rest))
  | .abandoned _ :: rest => .next (applyReset (s.withEvents rest))

/-- The state in which the host presents the table word `w` next, ahead of what it presents already. -/
def State.withFetchWord (s : State) (nbits w : Nat) : State :=
  s.withEvents (.command (tableWord nbits w) :: s.events)

end Sys2Proof.Machine
end

