-- ==== Sys2Proof/Machine/Kleira.lean ====
section
/-! DEFINITION. The functions of the source document that the command sequences compute, written apart from the
machine, as the terms claims about runs are stated in: `DeriveSeed` (spec/40_hash_seed_derivation.md R100), the in-place
loops of seeding and twist (spec/41_mt19937_generator.md R121, R124), the output stream (R128), `Transform`
(spec/43_substitution.md R158), what the host appends for a response (R157, R86), the pseudo-instructions
(spec/30_encoding.md R84 to R86) and the software's characterwise transform (R160). `step` calls none of them. -/

namespace Sys2Proof.Machine

/-! ## Seed derivation -/

/-- A message with MD5's padding (R108): the message, `0x80`, zero bytes to 56 modulo 64, the bit length modulo
`2^64` least significant byte first. -/
def md5Padded (m : List Byte) : List Byte :=
  m ++ 0x80#8 :: (List.replicate ((119 - m.length % 64) % 64) 0x00#8 ++
    (List.range 8).map (fun j => (BitVec.ofNat 64 (8 * m.length)).extractLsb' (8 * j) 8))

/-- The `q`-th 64-byte block of a padded message. -/
def blockAt (bytes : List Byte) (q : Nat) : Vector Byte 64 :=
  ⟨⟨(List.range 64).map (fun i => bytes.getD (64 * q + i) 0#8)⟩, by simp⟩

/-- The chaining values of R101. -/
def md5Init : Md5Chain := ⟨md5IvA, md5IvB, md5IvC, md5IvD⟩

/-- The chaining values after the whole padded message (R105). -/
def md5Digest (m : List Byte) : Md5Chain :=
  (List.range ((md5Padded m).length / 64)).foldl (fun q b => md5Compress q (blockAt (md5Padded m) b)) md5Init

/-- The digest bytes `d[0]` to `d[15]`: `HA`, `HB`, `HC`, `HD`, each least significant byte first (R54). -/
def digestBytes (q : Md5Chain) : List Byte := [q.a, q.b, q.c, q.d].flatMap (fun w => (List.range 4).map (byteOf w))

/-- `DeriveSeed(m)` (R100): the first four digest bytes, `d[0]` least significant. -/
def deriveSeed (m : List Byte) : Word :=
  leWord ((digestBytes (md5Digest m)).getD 0 0) ((digestBytes (md5Digest m)).getD 1 0)
    ((digestBytes (md5Digest m)).getD 2 0) ((digestBytes (md5Digest m)).getD 3 0)

/-! ## The generator -/

/-- The loop of R121 as it is written: `MT[0] <- s`, then `MT[i]` for `i` in 1 to 623 from the word before it as it
stands in the array. -/
def seedInPlace (s : Word) (mt : Vector Word 624) : Vector Word 624 :=
  loop 623 (fun i t => t.set (i.val + 1) (seedNext t[i.val] (i.val + 1))) (mt.set 0 s)

/-- Step `i` of the twist on the array as it stands (R124). -/
def twistStep (i : Fin 624) (mt : Vector Word 624) : Vector Word 624 :=
  mt.set i.val ((mt[(i.val + 397) % 624]'(Nat.mod_lt _ (by decide))) ^^^
    mix mt[i.val] (mt[(i.val + 1) % 624]'(Nat.mod_lt _ (by decide))))

/-- The loop of R124 as it is written: in place, in ascending order. -/
def twistInPlace (mt : Vector Word 624) : Vector Word 624 := loop 624 twistStep mt

/-- `A_q` (R128): the seeded array after `q + 1` twists. -/
def batch (s : Word) : Nat → Vector Word 624
  | 0 => twist (seedArray s)
  | q + 1 => twist (batch s q)

/-- Word `n` of the output stream of seed `s`, counting from 0 (R128). -/
def streamWord (s : Word) (n : Nat) : Word := temper ((batch s (n / 624))[n % 624]'(Nat.mod_lt _ (by decide)))

/-! ## The transform -/

/-- `Out(u)` (R158): the four code characters, zero extended, of a key; the folded unit itself otherwise. -/
def transformUnit (ct : Vector (Vector Byte 4) 35) (u : Word) : List Word :=
  match symIndex (upcase u) with
  | some k => ct[k].toList.map (fun b => b.setWidth 32)
  | none => [upcase u]

/-- `Transform(us)` (R158). -/
def transform (ct : Vector (Vector Byte 4) 35) (us : List Word) : List Word := us.flatMap (transformUnit ct)

/-- What the host appends to its output for a response (R157, R86): four units on `OK`, low byte first; the data on
`PASS`. -/
def hostAppend (r : Response) : List Word :=
  match r.status with
  | .ok => (List.range 4).map (fun j => (byteOf r.data j).setWidth 32)
  | .pass => [r.data]
  | .absent => []
  | .bounds => []
  | .error _ => []

/-! ## Pseudo-instructions -/

/-- `DERIVE` over the bytes of a text (R84). -/
def deriveCmds (m : List Byte) : List Instr := .hinit :: (m.map .hbyte ++ [.hfin])

/-- `BUILD` over the bytes of a text (R85). -/
def buildCmds (m : List Byte) : List Instr := deriveCmds m ++ [.gbuild]

/-- `XFORM` over a sequence of units (R86, R158). -/
def xformCmds (us : List Word) : List Instr := us.map .xlate

/-! ## Characters -/

/-- The UTF-8 encoding of a character, which the host or the assembler performs (R84, R210). PRESUMED: UTF-8 is
general knowledge, notes/assumptions/5.md. -/
def utf8 (c : Char) : List Byte :=
  if c.toNat < 0x80 then [BitVec.ofNat 8 c.toNat]
  else if c.toNat < 0x800 then
    [BitVec.ofNat 8 (0xC0 + c.toNat / 0x40), BitVec.ofNat 8 (0x80 + c.toNat % 0x40)]
  else if c.toNat < 0x10000 then
    [BitVec.ofNat 8 (0xE0 + c.toNat / 0x1000), BitVec.ofNat 8 (0x80 + c.toNat / 0x40 % 0x40),
      BitVec.ofNat 8 (0x80 + c.toNat % 0x40)]
  else
    [BitVec.ofNat 8 (0xF0 + c.toNat / 0x40000), BitVec.ofNat 8 (0x80 + c.toNat / 0x1000 % 0x40),
      BitVec.ofNat 8 (0x80 + c.toNat / 0x40 % 0x40), BitVec.ofNat 8 (0x80 + c.toNat % 0x40)]

/-- The UTF-8 bytes of a text. -/
def utf8Text (cs : List Char) : List Byte := cs.flatMap utf8

/-- The uppercase form of an ASCII character: only `a` to `z` change (R160). -/
def asciiUpper (c : Char) : Char := if 0x61 ≤ c.toNat ∧ c.toNat ≤ 0x7A then Char.ofNat (c.toNat - 0x20) else c

/-- The software's `transform` for a given uppercase mapping (R160): uppercase the text, then for each character the
code of a key or the character itself, as UTF-8 bytes. R160 calls the mapping `U` one "which no source specifies"; that
it is here ANY function from texts to texts, a text being a sequence of Unicode scalar values, is the model's choice
(DESIGN CHOICE, notes/assumptions/16.md). -/
def softTransform (ct : Vector (Vector Byte 4) 35) (upper : List Char → List Char) (cs : List Char) : List Byte :=
  (upper cs).flatMap (fun c =>
    match symIndex (BitVec.ofNat 32 c.toNat) with
    | some k => ct[k].toList
    | none => utf8 c)

end Sys2Proof.Machine
end

