-- ==== Sys2Proof/Machine/Assembler.lean ====
section
/-! DEFINITION. The assembler syntax of spec/30_encoding.md R83 to R86: one command, pseudo-instruction or `.word`
directive a line, `;` comments, and an expected response after `->`. It stands for the host; `step` does not use it. What the
rules leave open of the syntax is settled in notes/assumptions/17.md (DESIGN CHOICE). -/

namespace Sys2Proof.Machine

/-! ## Tokens -/

/-- The tokens of a line. -/
inductive AsmToken where
  /-- A mnemonic, a number, a name or a directive. -/
  | word (cs : List Char)
  /-- A character literal. -/
  | chr (c : Char)
  /-- A string literal of a pseudo-instruction. -/
  | str (cs : List Char)
  /-- The comma between the two operands of `SYMAT`. -/
  | comma
  /-- The arrow before an expected response. -/
  | arrow
deriving DecidableEq, Repr

/-- The token of the word read so far, if any, before the tokens read after it. -/
def flushWord (acc : List Char) (ts : List AsmToken) : List AsmToken :=
  if acc.isEmpty then ts else .word acc.reverse :: ts

/-- Split a line into tokens (R83): `acc` is the word read so far, reversed; `quoted` the string read so far, reversed,
while inside double quotes. `none` for an unclosed string. R83 gives no lexical grammar; that a `;`, a comma or an arrow
inside a literal is text and starts no comment, that a text ends at the next `"` and has no escape, and that spaces and
tabs separate are the model's choice (DESIGN CHOICE, notes/assumptions/17.md). -/
def lexLine : List Char → (acc : List Char) → (quoted : Option (List Char)) → Option (List AsmToken)
  | [], acc, none => some (flushWord acc [])
  | [], _, some _ => none
  | '"' :: cs, _, some q => (lexLine cs [] none).map (.str q.reverse :: ·)
  | c :: cs, _, some q => lexLine cs [] (some (c :: q))
  | ';' :: _, acc, none => some (flushWord acc [])
  | '"' :: cs, acc, none => (lexLine cs [] (some [])).map (flushWord acc ·)
  | '\'' :: c :: '\'' :: cs, acc, none => (lexLine cs [] none).map (fun ts => flushWord acc (.chr c :: ts))
  | ',' :: cs, acc, none => (lexLine cs [] none).map (fun ts => flushWord acc (.comma :: ts))
  | '-' :: '>' :: cs, acc, none => (lexLine cs [] none).map (fun ts => flushWord acc (.arrow :: ts))
  | c :: cs, acc, none =>
    if c = ' ' ∨ c = '\t' then (lexLine cs [] none).map (flushWord acc ·) else lexLine cs (c :: acc) none

/-! ## Numbers -/

/-- The value of a digit in a base of at most 16. -/
def digitValue (c : Char) : Option Nat :=
  if 0x30 ≤ c.toNat ∧ c.toNat ≤ 0x39 then some (c.toNat - 0x30)
  else if 0x41 ≤ c.toNat ∧ c.toNat ≤ 0x46 then some (c.toNat - 0x41 + 10)
  else if 0x61 ≤ c.toNat ∧ c.toNat ≤ 0x66 then some (c.toNat - 0x61 + 10)
  else none

/-- The value of a digit string in a base. -/
def digitsValue (base : Nat) : List Char → Nat → Option Nat
  | [], n => some n
  | c :: cs, n =>
    match digitValue c with
    | some d => if d < base then digitsValue base cs (base * n + d) else none
    | none => none

/-- A decimal number, or a hexadecimal one with the prefix `0x` (R83). -/
def numberValue : List Char → Option Nat
  | '0' :: 'x' :: c :: cs => digitsValue 16 (c :: cs) 0
  | c :: cs => digitsValue 10 (c :: cs) 0
  | [] => none

/-- The value of an operand token: a number, or a character literal of one ASCII character (R83). -/
def operandValue : AsmToken → Option Nat
  | .word cs => numberValue cs
  | .chr c => if c.toNat < 0x80 then some c.toNat else none
  | .str _ => none
  | .comma => none
  | .arrow => none

/-- An operand that fits `n` bits. -/
def operandBits (n : Nat) (t : AsmToken) : Option (BitVec n) :=
  match operandValue t with
  | some v => if v < 2 ^ n then some (BitVec.ofNat n v) else none
  | none => none

/-- The operand of `RDCSR`: a CSR number, or one of the three names (R83). Number 3 has a word too, which the block
refuses (R77; spec/95_test_vectors.md V50 writes it so). -/
def csrOperand (t : AsmToken) : Option (BitVec 2) :=
  if t = .word ['S', 'T', 'A', 'T', 'U', 'S'] then some 0#2
  else if t = .word ['S', 'E', 'E', 'D'] then some 1#2
  else if t = .word ['E', 'R', 'R', 'I', 'N', 'F', 'O'] then some 2#2
  else match operandValue t with
    | some v => if v < 4 then some (BitVec.ofNat 2 v) else none
    | none => none

/-- The word of the directive `.word`: opcode byte, underscore, eight hexadecimal digits (R83). -/
def rawWord : List Char → Option Cmd
  | '0' :: 'x' :: a :: b :: '_' :: cs =>
    if cs.length = 8 then (digitsValue 16 (a :: b :: cs) 0).map (BitVec.ofNat 40) else none
  | _ => none

/-! ## Lines -/

/-- The statuses by name (R71). -/
def statusNamed (cs : List Char) : Option Status :=
  if cs = ['O', 'K'] then some .ok
  else if cs = ['P', 'A', 'S', 'S'] then some .pass
  else if cs = ['A', 'B', 'S', 'E', 'N', 'T'] then some .absent
  else if cs = ['B', 'O', 'U', 'N', 'D', 'S'] then some .bounds
  else if cs = ['E', '_', 'I', 'L', 'L', 'E', 'G', 'A', 'L'] then some (.error .eIllegal)
  else if cs = ['E', '_', 'O', 'P', 'E', 'R', 'A', 'N', 'D'] then some (.error .eOperand)
  else if cs = ['E', '_', 'H', 'S', 'T', 'A', 'T', 'E'] then some (.error .eHstate)
  else if cs = ['E', '_', 'N', 'O', 'S', 'E', 'E', 'D'] then some (.error .eNoseed)
  else if cs = ['E', '_', 'N', 'O', 'M', 'T'] then some (.error .eNomt)
  else if cs = ['E', '_', 'N', 'O', 'G', 'R', 'I', 'D'] then some (.error .eNogrid)
  else none

/-- A line of one command with its mnemonic and operand tokens (R83). -/
def commandOf (m : List Char) (args : List AsmToken) : Option Instr :=
  match args with
  | [] =>
    if m = ['H', 'I', 'N', 'I', 'T'] then some .hinit
    else if m = ['H', 'F', 'I', 'N'] then some .hfin
    else if m = ['M', 'T', 'N', 'E', 'X', 'T'] then some .mtnext
    else if m = ['G', 'B', 'U', 'I', 'L', 'D'] then some .gbuild
    else none
  | [a] =>
    if m = ['R', 'D', 'C', 'S', 'R'] then (csrOperand a).map .rdcsr
    else if m = ['H', 'B', 'Y', 'T', 'E'] then (operandBits 8 a).map .hbyte
    else if m = ['M', 'T', 'S', 'E', 'E', 'D'] then (operandBits 32 a).map .mtseed
    else if m = ['C', 'O', 'D', 'E', 'F', 'O', 'R'] then (operandBits 32 a).map .codefor
    else if m = ['X', 'L', 'A', 'T', 'E'] then (operandBits 32 a).map .xlate
    else none
  | [a, .comma, b] =>
    if m = ['S', 'Y', 'M', 'A', 'T'] then
      match operandBits 16 a, operandBits 16 b with
      | some row, some col => some (.symat row col)
      | _, _ => none
    else none
  | _ => none

/-- The command words of a line without comment and expected response: none for an empty line, one for a command or
`.word`, the expansion for a pseudo-instruction (R83 to R86). -/
def wordsOf : List AsmToken → Option (List Cmd)
  | [] => some []
  | [.word m, .str cs] =>
    if m = ['D', 'E', 'R', 'I', 'V', 'E'] then some ((deriveCmds (utf8Text cs)).map encode)
    else if m = ['B', 'U', 'I', 'L', 'D'] then some ((buildCmds (utf8Text cs)).map encode)
    else if m = ['X', 'F', 'O', 'R', 'M'] then some ((xformCmds ((utf8Text cs).map (fun b => b.setWidth 32))).map encode)
    else none
  | .word m :: args =>
    match m, args with
    | '.' :: d, [.word w] => if d = ['w', 'o', 'r', 'd'] then (rawWord w).map ([·]) else none
    | _, _ => (commandOf m args).map (fun i => [encode i])
  | _ => none

/-- The expected response after `->`: the status name and the data (R83). -/
def expectedOf : List AsmToken → Option Response
  | [.word st, d] =>
    match statusNamed st, operandBits 32 d with
    | some status, some data => some ⟨status, data⟩
    | _, _ => none
  | _ => none

/-- An assembled line. -/
structure AsmLine where
  /-- The command words it stands for, in order. -/
  words : List Cmd
  /-- The expected response of the last of them, where the line gives one. -/
  expected : Option Response
deriving DecidableEq, Repr

/-- Assemble a line of tokens: what stands before the arrow, and the expected response after it. -/
def assembleTokens (ts : List AsmToken) : Option AsmLine :=
  match wordsOf (ts.takeWhile (· ≠ .arrow)), ts.dropWhile (· ≠ .arrow) with
  | some ws, [] => some ⟨ws, none⟩
  | some ws, _ :: rest => (expectedOf rest).map (fun r => ⟨ws, some r⟩)
  | none, _ => none

/-- Assemble one line (R83); `none` for a line that is not of the syntax. -/
def assembleLine (line : List Char) : Option AsmLine :=
  match lexLine line [] none with
  | some ts => assembleTokens ts
  | none => none

/-! ## Printing -/

/-- The mnemonic of a command (R72). -/
def mnemonic : Instr → String
  | .rdcsr _ => "RDCSR"
  | .hinit => "HINIT"
  | .hbyte _ => "HBYTE"
  | .hfin => "HFIN"
  | .mtseed _ => "MTSEED"
  | .mtnext => "MTNEXT"
  | .gbuild => "GBUILD"
  | .symat _ _ => "SYMAT"
  | .codefor _ => "CODEFOR"
  | .xlate _ => "XLATE"

/-- The upper-case hexadecimal digit of a value below 16. -/
def hexDigit (n : Nat) : Char := if n < 10 then Char.ofNat (0x30 + n) else Char.ofNat (0x41 + n - 10)

/-- The `n` low hexadecimal digits of a number, most significant first. -/
def hexDigits : Nat → Nat → List Char
  | 0, _ => []
  | n + 1, v => hexDigits n (v / 16) ++ [hexDigit (v % 16)]

/-- An assembled word in print: the opcode byte, an underscore, the eight hexadecimal digits of the operand (R83). -/
def printWord (w : Cmd) : List Char :=
  ['0', 'x'] ++ hexDigits 2 (opField w).toNat ++ ['_'] ++ hexDigits 8 (argField w).toNat

/-- The printed form of a command (R83), its operands in hexadecimal. -/
def printInstr (i : Instr) : List Char :=
  (mnemonic i).toList ++
    match i with
    | .rdcsr n => [' ', hexDigit n.toNat]
    | .hinit => []
    | .hbyte b => [' ', '0', 'x'] ++ hexDigits 2 b.toNat
    | .hfin => []
    | .mtseed w => [' ', '0', 'x'] ++ hexDigits 8 w.toNat
    | .mtnext => []
    | .gbuild => []
    | .symat row col => [' ', '0', 'x'] ++ hexDigits 4 row.toNat ++ [',', ' ', '0', 'x'] ++ hexDigits 4 col.toNat
    | .codefor w => [' ', '0', 'x'] ++ hexDigits 8 w.toNat
    | .xlate w => [' ', '0', 'x'] ++ hexDigits 8 w.toNat

end Sys2Proof.Machine
end

