-- ==== Sys2Proof/WellFormed.lean ====
section
/-! DEFINITION. Which terms of `Instr` are commands: the one operand value that fits its field and is still illegal
is CSR number 3 (spec/30_encoding.md R77, "`n`, not 3"); every other operand value is legal (R73 to R76). -/

namespace Sys2Proof

/-- A well-formed command: its operand is one its format admits (R73 to R77). -/
def Instr.wf : Instr → Bool
  | .rdcsr n => n != 3#2
  | .hinit => true
  | .hbyte _ => true
  | .hfin => true
  | .mtseed _ => true
  | .mtnext => true
  | .gbuild => true
  | .symat _ _ => true
  | .codefor _ => true
  | .xlate _ => true

end Sys2Proof
end

