-- ==== Sys2Proof/Safety.lean ====
section
/-! DEFINITION. The terms claims are stated in: runs, the invariant of spec/10_state.md R39, and what it means that a
unit of the block is unchanged (the units of spec/00_scope.md R2, their write sets in R44). -/

namespace Sys2Proof.Machine

/-! ## Runs -/

/-- `n` steps, stopping at the first fault or refusal; the same function as `Host.Core.run` of the machine. -/
def run : Nat → State → Host.Outcome State Fault Refusal
  | 0, s => .next s
  | n + 1, s =>
    match step s with
    | .next t => run n t
    | .fault r => .fault r
    | .refused r => .refused r

/-- The commands `is` as the host presents them (R70, R83). -/
def present (is : List Instr) : List HostEvent := is.map (fun i => .command (encode i))

/-- The responses `t` holds beyond those of `s` are `rs`, and the host presents the same events (R70: exactly one
response for each command). -/
def Answered (s t : State) (rs : List Response) : Prop :=
  t.responses = s.responses ++ rs ∧ t.events = s.events ∧ t.resets = s.resets

/-! ## Command words -/

/-- The ten opcode bytes (R72). -/
def definedOpcodes : List Byte := [0x01, 0x10, 0x11, 0x12, 0x20, 0x21, 0x30, 0x31, 0x32, 0x40]

/-- A defined opcode whose must-be-zero field is not zero, or whose CSR number does not exist (R73, R74, R77, R80). -/
def OperandIllegal (op : Byte) (arg : Word) : Prop :=
  (op ∈ ([0x10, 0x12, 0x21, 0x30] : List Byte) ∧ arg ≠ 0#32) ∨
    (op = 0x11#8 ∧ arg.extractLsb' 8 24 ≠ 0#24) ∨
    (op = 0x01#8 ∧ 3 ≤ arg.toNat)

/-- The cause of each error status (R181), with the priority of R184: the operand is checked before the
prerequisite. -/
def ErrorCause (s : State) (w : Cmd) : ErrStatus → Prop
  | .eIllegal => opField w ∉ definedOpcodes
  | .eOperand => OperandIllegal (opField w) (argField w)
  | .eHstate =>
    ¬OperandIllegal (opField w) (argField w) ∧ (opField w = 0x11#8 ∨ opField w = 0x12#8) ∧ s.hopen = false
  | .eNoseed =>
    ¬OperandIllegal (opField w) (argField w) ∧
      (opField w = 0x30#8 ∨ (opField w = 0x01#8 ∧ argField w = 1#32)) ∧ s.seedValid = false
  | .eNomt => ¬OperandIllegal (opField w) (argField w) ∧ opField w = 0x21#8 ∧ s.mtValid = false
  | .eNogrid => (opField w = 0x32#8 ∨ opField w = 0x40#8) ∧ s.gridValid = false

/-- The statuses a command word with the given opcode byte can end with (the table of R183). -/
def possibleStatuses (op : Byte) : List Status :=
  if op = 0x01#8 then [.ok, .error .eOperand, .error .eNoseed]
  else if op = 0x10#8 then [.ok, .error .eOperand]
  else if op = 0x11#8 then [.ok, .error .eOperand, .error .eHstate]
  else if op = 0x12#8 then [.ok, .error .eOperand, .error .eHstate]
  else if op = 0x20#8 then [.ok]
  else if op = 0x21#8 then [.ok, .error .eOperand, .error .eNomt]
  else if op = 0x30#8 then [.ok, .error .eOperand, .error .eNoseed]
  else if op = 0x31#8 then [.ok, .bounds]
  else if op = 0x32#8 then [.ok, .absent, .error .eNogrid]
  else if op = 0x40#8 then [.ok, .pass, .error .eNogrid]
  else [.error .eIllegal]

/-- The 35 symbols in their fixed order, `ALPHABET` (R8). -/
def alphabetChars : List Char :=
  ['A', 'B', 'C', 'D', 'E', 'F', 'G', 'H', 'I', 'J', 'K', 'L', 'M', 'N', 'O', 'P', 'Q', 'R', 'S', 'T', 'U', 'V', 'W',
    'X', 'Y', 'Z', '1', '2', '3', '4', '5', '6', '7', '8', '9']

/-- A status of the error class (R71). -/
def Status.isError : Status → Bool
  | .ok => false
  | .pass => false
  | .absent => false
  | .bounds => false
  | .error _ => true

/-! ## Frames -/

/-- The twister is unchanged: `MT`, `IDX`, `MTVALID`. -/
def SameTwister (s t : State) : Prop := t.mt = s.mt ∧ t.idx = s.idx ∧ t.mtValid = s.mtValid

/-- The hash kernel is unchanged: `HA` to `HD`, `HBUF`, `HFILL`, `HLEN`, `HOPEN`. -/
def SameHash (s t : State) : Prop :=
  t.ha = s.ha ∧ t.hb = s.hb ∧ t.hc = s.hc ∧ t.hd = s.hd ∧ t.hbuf = s.hbuf ∧ t.hfill = s.hfill ∧
    t.hlen = s.hlen ∧ t.hopen = s.hopen

/-- The seed register is unchanged: `SEED`, `SEEDVALID`. -/
def SameSeed (s t : State) : Prop := t.seed = s.seed ∧ t.seedValid = s.seedValid

/-- The code table is unchanged: `CT`, `GRIDVALID`. -/
def SameGrid (s t : State) : Prop := t.ct = s.ct ∧ t.gridValid = s.gridValid

/-- The error record is unchanged: `ERR`, `ERRCODE`, `ERROP`. -/
def SameErr (s t : State) : Prop := t.err = s.err ∧ t.errCode = s.errCode ∧ t.errOp = s.errOp

/-- Everything but the error record and the ports is unchanged. -/
def SameUnits (s t : State) : Prop := SameTwister s t ∧ SameHash s t ∧ SameSeed s t ∧ SameGrid s t

/-- The error `e` of a command with opcode byte `op` has been recorded and answered, and nothing else has changed
(R185, R186). -/
def Raised (s t : State) (e : ErrStatus) (op : Byte) : Prop :=
  t.err = true ∧ t.errCode = (if s.err then s.errCode else e.code) ∧ t.errOp = (if s.err then s.errOp else op) ∧
    SameUnits s t ∧ Answered s t [⟨.error e, 0#32⟩]

/-- The commands that write the twister (R44). -/
def writesTwister : Instr → Bool
  | .mtseed _ => true
  | .mtnext => true
  | .gbuild => true
  | .rdcsr _ => false
  | .hinit => false
  | .hbyte _ => false
  | .hfin => false
  | .symat _ _ => false
  | .codefor _ => false
  | .xlate _ => false

/-- The commands that write the hash kernel (R44). -/
def writesHash : Instr → Bool
  | .hinit => true
  | .hbyte _ => true
  | .hfin => true
  | .rdcsr _ => false
  | .mtseed _ => false
  | .mtnext => false
  | .gbuild => false
  | .symat _ _ => false
  | .codefor _ => false
  | .xlate _ => false

/-- The commands that write `SEED` or `SEEDVALID` (R44). -/
def writesSeed : Instr → Bool
  | .hinit => true
  | .hfin => true
  | .rdcsr _ => false
  | .hbyte _ => false
  | .mtseed _ => false
  | .mtnext => false
  | .gbuild => false
  | .symat _ _ => false
  | .codefor _ => false
  | .xlate _ => false

/-- The one command that writes the code table (R30, R44). -/
def writesGrid : Instr → Bool
  | .gbuild => true
  | .rdcsr _ => false
  | .hinit => false
  | .hbyte _ => false
  | .hfin => false
  | .mtseed _ => false
  | .mtnext => false
  | .symat _ _ => false
  | .codefor _ => false
  | .xlate _ => false

/-- The twister is `n` extractions into the stream of seed `w` (R128): the array is the seeded one before the first
extraction and the batch of the last extraction after it, the cursor `n mod 624`. -/
def StreamAt (w : Word) (n : Nat) (s : State) : Prop :=
  s.mtValid = true ∧ s.idx.toNat = n % 624 ∧ s.mt = (if n = 0 then seedArray w else batch w ((n - 1) / 624))

/-! ## The invariant of R39 -/

/-- Item 1: a seeded twister has a legal cursor. -/
def CursorLegal (s : State) : Prop := s.mtValid = true → s.idx.toNat ≤ 623

/-- Item 2: the fill of an open message is its length modulo 64 (and is at most 63). -/
def FillCounts (s : State) : Prop := s.hopen = true → s.hfill.toNat = s.hlen.toNat % 64 ∧ s.hfill.toNat ≤ 63

/-- Item 3: a complete code table holds characters of the code alphabet. -/
def CodesFromAlphabet (s : State) : Prop :=
  s.gridValid = true → ∀ (k : Fin 35) (j : Fin 4), ∃ c : Fin 78, (s.ct[k])[j] = Config.codeAlphabet.bytes[c]

/-- Item 4: a complete code table implies a seeded twister. -/
def GridNeedsTwister (s : State) : Prop := s.gridValid = true → s.mtValid = true

/-- Item 5: the error record is clear until the first error and holds an error code after it. -/
def ErrorRecordLegal (s : State) : Prop :=
  (s.err = false → s.errCode = 0#4 ∧ s.errOp = 0#8) ∧
    (s.err = true → 8 ≤ s.errCode.toNat ∧ s.errCode.toNat ≤ 13)

/-- Item 6: an open message excludes a derived seed. -/
def OpenExcludesSeed (s : State) : Prop := s.hopen = true → s.seedValid = false

/-- The invariant of R39, its six items. -/
structure Inv (s : State) : Prop where
  cursor : CursorLegal s
  fill : FillCounts s
  codes : CodesFromAlphabet s
  grid : GridNeedsTwister s
  record : ErrorRecordLegal s
  seed : OpenExcludesSeed s

end Sys2Proof.Machine
end

