-- ==== Sys2Proof/Certificates/Slice0/Obligations.lean ====
section
/-! DEFINITION. The statements for the provers, in the order of OBLIGATIONS.json. -/

open Sys2Proof Sys2Proof.Machine

/-! ## Command words -/

/-- Decoding and encoding agree: a word decodes to a command exactly when the command is well-formed and the word is
its encoding (spec/30_encoding.md sections 2 to 4). -/
def Obligations.DecodeEncodeAgree : Prop :=
  ∀ (i : Instr) (w : Cmd), decode w = .ok i ↔ (i.wf = true ∧ encode i = w)

/-- The decoder refuses exactly the undefined opcode bytes, as illegal, and exactly the operands that violate a
must-be-zero field or name no CSR, as operand errors; the opcode byte it reports is that of the word
(spec/30_encoding.md section 4). -/
def Obligations.DecoderRefusesExactly : Prop :=
  ∀ w : Cmd,
    (decode w = .error (.illegal (opField w)) ↔ opField w ∉ definedOpcodes) ∧
    (decode w = .error (.operand (opField w)) ↔ OperandIllegal (opField w) (argField w)) ∧
    (∀ e, decode w = .error e → e = .illegal (opField w) ∨ e = .operand (opField w))

/-- One command word of each format, and words that are none, decode as spec/30_encoding.md R72 to R77 and
spec/95_test_vectors.md V60 write them. -/
def Obligations.SampleWordsDecode : Prop :=
  decode 0x0100000002#40 = .ok (.rdcsr 2#2) ∧ decode 0x1000000000#40 = .ok .hinit ∧
    decode 0x1100000074#40 = .ok (.hbyte 0x74#8) ∧ decode 0x1200000000#40 = .ok .hfin ∧
    decode 0x20CD6B8F09#40 = .ok (.mtseed 0xCD6B8F09#32) ∧ decode 0x2100000000#40 = .ok .mtnext ∧
    decode 0x3000000000#40 = .ok .gbuild ∧ decode 0x3100050001#40 = .ok (.symat 5#16 1#16) ∧
    decode 0x3200000041#40 = .ok (.codefor 0x41#32) ∧ decode 0x4000000061#40 = .ok (.xlate 0x61#32) ∧
    decode 0x0000000000#40 = .error (.illegal 0x00#8) ∧ decode 0xFFFFFFFFFF#40 = .error (.illegal 0xFF#8) ∧
    decode 0x1200000001#40 = .error (.operand 0x12#8) ∧ decode 0x0100000003#40 = .error (.operand 0x01#8)

/-- Lines of the assembler syntax of spec/30_encoding.md section 6 and the words they stand for. That the text of a
pseudo-instruction is encoded as UTF-8 with ASCII below `0x80` is the model's general knowledge
(notes/assumptions/5.md). -/
def Obligations.AssemblerExamples : Prop :=
  assembleLine ['R', 'D', 'C', 'S', 'R', ' ', 'S', 'T', 'A', 'T', 'U', 'S'] = some ⟨[0x0100000000#40], none⟩ ∧
    assembleLine ['H', 'B', 'Y', 'T', 'E', ' ', '\'', 't', '\''] = some ⟨[0x1100000074#40], none⟩ ∧
    assembleLine ['S', 'Y', 'M', 'A', 'T', ' ', '5', ',', ' ', '1'] = some ⟨[0x3100050001#40], none⟩ ∧
    assembleLine ['X', 'L', 'A', 'T', 'E', ' ', '0', 'x', '1', '6', '1', ' ', ';', ' ', 'x'] =
      some ⟨[0x4000000161#40], none⟩ ∧
    assembleLine ['.', 'w', 'o', 'r', 'd', ' ', '0', 'x', '2', '1', '_', '0', '0', '0', '0', '0', '0', '0', '5'] =
      some ⟨[0x2100000005#40], none⟩ ∧
    assembleLine ['B', 'U', 'I', 'L', 'D', ' ', '"', 't', '"'] =
      some ⟨[0x1000000000#40, 0x1100000074#40, 0x1200000000#40, 0x3000000000#40], none⟩ ∧
    assembleLine ['X', 'F', 'O', 'R', 'M', ' ', '"', '"'] = some ⟨[], none⟩

/-! ## Steps and errors -/

/-- When the next event is a word that decodes to a command, the step is the execution of that command in the state
from which only the event has been taken. That the host is a list of events in the state is the model's choice
(notes/assumptions/6.md). -/
def Obligations.StepRunsDecodedCommand : Prop :=
  ∀ (s : State) (w : Cmd) (rest : List HostEvent) (i : Instr),
    s.events = .command w :: rest → decode w = .ok i →
      step s = exec i (s.withEvents rest) ∧ (s.withEvents rest).events = rest ∧
        SameUnits s (s.withEvents rest) ∧ SameErr s (s.withEvents rest) ∧
        (s.withEvents rest).responses = s.responses

/-- A word with an undefined opcode byte, one of 246, ends in `E_ILLEGAL` whatever its operand: data 0, and nothing
changes but the error record; the all-zero word is such a word (R79). -/
def Obligations.UndefinedOpcodeIsIllegal : Prop :=
  (∀ (s : State) (w : Cmd) (rest : List HostEvent), s.events = .command w :: rest → opField w ∉ definedOpcodes →
    ∃ t, step s = .next t ∧ Raised (s.withEvents rest) t .eIllegal (opField w)) ∧
  ((List.range 256).filter (fun n => BitVec.ofNat 8 n ∉ definedOpcodes)).length = 246 ∧
  opField 0#40 ∉ definedOpcodes

/-- The six error statuses, their codes and their causes (R181): a word that meets a cause ends in that status, with
data 0 and no change but the error record, and no other cause of any error exists. -/
def Obligations.ErrorStatusHasItsCause : Prop :=
  (ErrStatus.eIllegal.code = 8#4 ∧ ErrStatus.eOperand.code = 9#4 ∧ ErrStatus.eHstate.code = 10#4 ∧
    ErrStatus.eNoseed.code = 11#4 ∧ ErrStatus.eNomt.code = 12#4 ∧ ErrStatus.eNogrid.code = 13#4) ∧
  ∀ (s : State) (w : Cmd) (rest : List HostEvent) (e : ErrStatus), s.events = .command w :: rest →
    (ErrorCause s w e → ∃ t, step s = .next t ∧ Raised (s.withEvents rest) t e (opField w)) ∧
    (∀ t d, step s = .next t → t.responses = s.responses ++ [⟨.error e, d⟩] → ErrorCause s w e ∧ d = 0#32)

/-- Every command word ends, in every state, with exactly one response, whose status is one of the ten codes (R180). -/
def Obligations.EveryCommandAnswersOnce : Prop :=
  ∀ (s : State) (w : Cmd) (rest : List HostEvent), s.events = .command w :: rest →
    ∃ t st d, step s = .next t ∧ t.responses = s.responses ++ [⟨st, d⟩] ∧ t.events = rest ∧
      st.code.toNat ∈ [0, 1, 2, 3, 8, 9, 10, 11, 12, 13]

/-- The statuses each command can end with are exactly those of the table of R183. -/
def Obligations.StatusesOfEachCommand : Prop :=
  ∀ (op : Byte) (st : Status), st ∈ possibleStatuses op ↔
    ∃ (s t : State) (w : Cmd) (rest : List HostEvent) (d : Word),
      opField w = op ∧ s.events = .command w :: rest ∧ step s = .next t ∧ t.responses = s.responses ++ [⟨st, d⟩]

/-- `raise E(op)` (R185): the first error since reset is recorded with its opcode byte, `ERR` becomes 1, the response
is status `E` with data 0, and nothing else changes. -/
def Obligations.RaiseRecordsAndAnswers : Prop :=
  ∀ (s : State) (e : ErrStatus) (op : Byte),
    (s.err = false → (raise s e op).errCode = e.code ∧ (raise s e op).errOp = op) ∧
    (s.err = true → (raise s e op).errCode = s.errCode ∧ (raise s e op).errOp = s.errOp) ∧
    (raise s e op).err = true ∧ Answered s (raise s e op) [⟨.error e, 0#32⟩] ∧ SameUnits s (raise s e op)

/-- The error record over any command (spec/10_state.md section 6): once `ERR` is 1 the record stays; while it is 0,
an error status is recorded with the word's opcode byte and any other status leaves the record alone. -/
def Obligations.ErrorRecordKeepsFirstError : Prop :=
  ∀ (s t : State) (w : Cmd) (rest : List HostEvent), s.events = .command w :: rest → step s = .next t →
    (s.err = true → SameErr s t) ∧
    (s.err = false → ∀ st d, t.responses = s.responses ++ [⟨st, d⟩] →
      (∀ e, st = .error e → t.err = true ∧ t.errCode = e.code ∧ t.errOp = opField w) ∧
      (st.isError = false → SameErr s t))

/-- `ERR` disables nothing (spec/60_exceptions.md section 3): but for `RDCSR STATUS` and `RDCSR ERRINFO`, a command
gives the same response and the same units whatever the error record holds. -/
def Obligations.ErrorRecordDisablesNothing : Prop :=
  ∀ (i : Instr) (s : State) (b : Bool) (c : BitVec 4) (o : BitVec 8), i ≠ .rdcsr 0#2 → i ≠ .rdcsr 2#2 →
    ∃ t t', exec i s = .next t ∧ exec i { s with err := b, errCode := c, errOp := o } = .next t' ∧
      t'.responses = t.responses ∧ SameUnits t t' ∧ t'.events = t.events

/-! ## Reset -/

/-- The state after reset has the values the spec gives (spec/70_reset_and_hazards.md section 1): all flags, the error
record and the cursor 0. -/
def Obligations.ResetStateValues : Prop :=
  State.reset.hopen = false ∧ State.reset.seedValid = false ∧ State.reset.mtValid = false ∧
    State.reset.gridValid = false ∧ State.reset.err = false ∧ State.reset.errCode = 0#4 ∧
    State.reset.errOp = 0#8 ∧ State.reset.idx = 0#10 ∧ statusWord State.reset = 0#32 ∧ errInfoWord State.reset = 0#32

/-- `rst`, between commands or while a command is in the block, puts the block into the reset state from any state,
without a response, and an abandoned command has no effect (spec/70_reset_and_hazards.md section 1, which offers this
or a premise that excludes it: notes/assumptions/12.md). -/
def Obligations.ResetEventEntersResetState : Prop :=
  ∀ (s : State) (w : Cmd) (rest : List HostEvent) (ev : HostEvent), (ev = .reset ∨ ev = .abandoned w) →
    s.events = ev :: rest →
      ∃ t, step s = .next t ∧ t.hopen = false ∧ t.seedValid = false ∧ t.mtValid = false ∧ t.gridValid = false ∧
        t.err = false ∧ t.errCode = 0#4 ∧ t.errOp = 0#8 ∧ t.idx = 0#10 ∧ t.responses = s.responses ∧ t.events = rest

/-- While the host presents nothing the block holds its state (spec/70_reset_and_hazards.md section 4); the idle step is
the model's form of it (notes/assumptions/6.md). -/
def Obligations.IdleBlockHoldsItsState : Prop := ∀ s : State, s.events = [] → step s = .next s

/-- The six invariants of spec/10_state.md section 10 hold after reset. -/
def Obligations.InvariantAtReset : Prop := Inv State.reset

/-- The six invariants hold after every reset, whatever it leaves in the unspecified elements, and every step keeps
them (R39). -/
def Obligations.StepKeepsInvariant : Prop :=
  (∀ (c : ResetContents) (s : State), Inv (resetWith c s)) ∧ ∀ s t : State, Inv s → step s = .next t → Inv t

/-- Two runs of the same events, each starting with a reset from any state, give the same responses whatever the reset
left in the unspecified elements (R214). -/
def Obligations.ResponsesIgnoreResetContents : Prop :=
  ∀ (c c' : ResetContents) (s s' : State) (evs : List HostEvent) (n : Nat),
    ∃ t t' rs, run n ((resetWith c s).withEvents evs) = .next t ∧ run n ((resetWith c' s').withEvents evs) = .next t' ∧
      t.responses = s.responses ++ rs ∧ t'.responses = s'.responses ++ rs

/-! ## Flags and write sets -/

/-- The life of the four valid flags (R204): all 0 after every reset, kept by a command that ends in an error, and the
table of transitions of the other commands, with its two consequences: a new `DERIVE` keeps the grid, and so do
`MTSEED` and `MTNEXT`. -/
def Obligations.FlagLife : Prop :=
  (∀ (c : ResetContents) (s : State), (resetWith c s).hopen = false ∧ (resetWith c s).seedValid = false ∧
    (resetWith c s).mtValid = false ∧ (resetWith c s).gridValid = false) ∧
  (∀ (i : Instr) (s t : State) (e : ErrStatus) (d : Word), exec i s = .next t →
    t.responses = s.responses ++ [⟨.error e, d⟩] →
    t.hopen = s.hopen ∧ t.seedValid = s.seedValid ∧ t.mtValid = s.mtValid ∧ SameGrid s t) ∧
  ∀ (i : Instr) (s t : State) (st : Status) (d : Word), Inv s → exec i s = .next t →
    t.responses = s.responses ++ [⟨st, d⟩] → st.isError = false →
    match i with
    | .hinit => t.hopen = true ∧ t.seedValid = false ∧ t.mtValid = s.mtValid ∧ SameGrid s t
    | .hbyte _ => t.hopen = true ∧ t.seedValid = false ∧ t.mtValid = s.mtValid ∧ SameGrid s t
    | .hfin => t.hopen = false ∧ t.seedValid = true ∧ t.mtValid = s.mtValid ∧ SameGrid s t
    | .mtseed _ => t.hopen = s.hopen ∧ t.seedValid = s.seedValid ∧ t.mtValid = true ∧ SameGrid s t
    | .mtnext => t.hopen = s.hopen ∧ t.seedValid = s.seedValid ∧ t.mtValid = true ∧ SameGrid s t
    | .gbuild => t.hopen = false ∧ t.seedValid = true ∧ t.mtValid = true ∧ t.gridValid = true
    | .symat _ _ => t.hopen = s.hopen ∧ t.seedValid = s.seedValid ∧ t.mtValid = s.mtValid ∧ SameGrid s t
    | .codefor _ => t.hopen = s.hopen ∧ t.seedValid = s.seedValid ∧ t.mtValid = s.mtValid ∧ SameGrid s t
    | .xlate _ => t.hopen = s.hopen ∧ t.seedValid = s.seedValid ∧ t.mtValid = s.mtValid ∧ SameGrid s t
    | .rdcsr _ => t.hopen = s.hopen ∧ t.seedValid = s.seedValid ∧ t.mtValid = s.mtValid ∧ SameGrid s t

/-- Each unit is written by the commands of the table of spec/10_state.md section 13 only, the code table by `GBUILD`
alone, and no command that does not end in an error touches the error record. -/
def Obligations.WriteSetsOfCommands : Prop :=
  ∀ (i : Instr) (s t : State), exec i s = .next t →
    (writesTwister i = false → SameTwister s t) ∧ (writesHash i = false → SameHash s t) ∧
    (writesSeed i = false → SameSeed s t) ∧ (writesGrid i = false → SameGrid s t) ∧
    (∀ st d, t.responses = s.responses ++ [⟨st, d⟩] → st.isError = false → SameErr s t)

/-- The reads `SYMAT`, `CODEFOR`, `XLATE`, `RDCSR` change no unit and give the same answer when repeated
(spec/20_memory.md section 5). -/
def Obligations.ReadsMayBeRepeated : Prop :=
  ∀ (i : Instr) (s : State),
    ((∃ row col, i = .symat row col) ∨ (∃ u, i = .codefor u) ∨ (∃ u, i = .xlate u) ∨ (∃ n, i = .rdcsr n)) →
      ∃ t u r, exec i s = .next t ∧ exec i t = .next u ∧ SameUnits s t ∧ SameUnits t u ∧
        Answered s t [r] ∧ Answered t u [r]

/-! ## Hash kernel -/

/-- `HINIT` completes in every state, opens an empty message and leaves `SEED`'s bits, the buffer, the twister, the
grid and the error record alone (spec/40_hash_seed_derivation.md section 4). -/
def Obligations.HinitOpensMessage : Prop :=
  ∀ s : State, ∃ t, exec .hinit s = .next t ∧
    t.ha = 0x67452301#32 ∧ t.hb = 0xefcdab89#32 ∧ t.hc = 0x98badcfe#32 ∧ t.hd = 0x10325476#32 ∧
    t.hfill = 0#6 ∧ t.hlen = 0#64 ∧ t.hopen = true ∧ t.seedValid = false ∧
    t.seed = s.seed ∧ t.hbuf = s.hbuf ∧ SameTwister s t ∧ SameGrid s t ∧ SameErr s t ∧ Answered s t [⟨.ok, 0#32⟩]

/-- `HBYTE b` completes while a message is open: the byte enters at `HBUF[HFILL]`, the counts advance and wrap, and
the chaining registers change only when the byte completes a block (spec/40_hash_seed_derivation.md sections 3, 4). -/
def Obligations.HbyteAbsorbsByte : Prop :=
  ∀ (s : State) (b : Byte), s.hopen = true → ∃ t, exec (.hbyte b) s = .next t ∧
    t.hbuf = s.hbuf.set s.hfill.toNat b s.hfill.isLt ∧
    t.hfill.toNat = (s.hfill.toNat + 1) % 64 ∧ t.hlen.toNat = (s.hlen.toNat + 1) % 2 ^ 64 ∧
    (s.hfill ≠ 63#6 → t.chain = s.chain) ∧ (s.hfill = 63#6 → t.chain = md5Compress s.chain t.hbuf) ∧
    t.hopen = true ∧ SameSeed s t ∧ SameTwister s t ∧ SameGrid s t ∧ SameErr s t ∧ Answered s t [⟨.ok, 0#32⟩]

/-- `HBYTE` and `HFIN` are refused with `E_HSTATE` while no message is open, changing nothing but the error record
(spec/60_exceptions.md sections 1, 3). -/
def Obligations.HashCommandsNeedOpenMessage : Prop :=
  ∀ (s : State) (b : Byte), s.hopen = false →
    (∃ t, exec (.hbyte b) s = .next t ∧ Raised s t .eHstate 0x11#8) ∧
    (∃ t, exec .hfin s = .next t ∧ Raised s t .eHstate 0x12#8)

/-- `HFIN` completes while a message is open: it pads the buffered bytes with `0x80`, zeros to 56 and the bit length,
runs one compression when at most 55 bytes are buffered and two otherwise, and the seed is the first chaining
register (spec/40_hash_seed_derivation.md section 4). -/
def Obligations.HfinPadsAndTakesSeed : Prop :=
  ∀ s : State, s.hopen = true →
    let padded : List Byte := s.hbuf.toList.take s.hfill.toNat ++ 0x80#8 ::
      (List.replicate ((119 - s.hfill.toNat) % 64) 0#8 ++
        (List.range 8).map (fun j => (s.hlen * 8#64).extractLsb' (8 * j) 8))
    ∃ t, exec .hfin s = .next t ∧
      t.chain = (if s.hfill.toNat ≤ 55 then md5Compress s.chain (blockAt padded 0)
        else md5Compress (md5Compress s.chain (blockAt padded 0)) (blockAt padded 1)) ∧
      t.hfill = 0#6 ∧ t.hlen = s.hlen ∧ t.seed = t.ha ∧ t.seedValid = true ∧ t.hopen = false ∧
      SameTwister s t ∧ SameGrid s t ∧ SameErr s t ∧ Answered s t [⟨.ok, t.ha⟩]

/-- The worked example of the block compression (spec/40_hash_seed_derivation.md section 3): the first block of the
empty message from the initial values, after steps 0 and 1 and after the whole block. -/
def Obligations.Md5BlockWorkedExample : Prop :=
  let buf : Vector Byte 64 := (Vector.replicate 64 0#8).set 0 0x80#8
  let q1 := md5Step buf 0 md5Init
  let q2 := md5Step buf 1 q1
  q1 = ⟨0x10325476#32, 0xa5202774#32, 0xefcdab89#32, 0x98badcfe#32⟩ ∧
    q2 = ⟨0x98badcfe#32, 0xf59592dd#32, 0xa5202774#32, 0xefcdab89#32⟩ ∧
    (md5Step buf 2 q2).b = 0xe7f06b23#32 ∧ (md5Step buf 3 (md5Step buf 2 q2)).b = 0x1b163203#32 ∧
    md5Compress md5Init buf = ⟨0xd98c1dd4#32, 0x04b2008f#32, 0x980980e9#32, 0x7e42f8ec#32⟩

/-- The digests and seeds of the five passphrases of R110: the empty one, `a`, `abc`, `test`, `Test`. -/
def Obligations.KnownDigestsAndSeeds : Prop :=
  (digestBytes (md5Digest []) = [0xd4, 0x1d, 0x8c, 0xd9, 0x8f, 0x00, 0xb2, 0x04, 0xe9, 0x80, 0x09, 0x98, 0xec, 0xf8,
      0x42, 0x7e] ∧ deriveSeed [] = 0xd98c1dd4#32) ∧
  (digestBytes (md5Digest [0x61]) = [0x0c, 0xc1, 0x75, 0xb9, 0xc0, 0xf1, 0xb6, 0xa8, 0x31, 0xc3, 0x99, 0xe2, 0x69,
      0x77, 0x26, 0x61] ∧ deriveSeed [0x61] = 0xb975c10c#32) ∧
  (digestBytes (md5Digest [0x61, 0x62, 0x63]) = [0x90, 0x01, 0x50, 0x98, 0x3c, 0xd2, 0x4f, 0xb0, 0xd6, 0x96, 0x3f,
      0x7d, 0x28, 0xe1, 0x7f, 0x72] ∧ deriveSeed [0x61, 0x62, 0x63] = 0x98500190#32) ∧
  (digestBytes (md5Digest [0x74, 0x65, 0x73, 0x74]) = [0x09, 0x8f, 0x6b, 0xcd, 0x46, 0x21, 0xd3, 0x73, 0xca, 0xde,
      0x4e, 0x83, 0x26, 0x27, 0xb4, 0xf6] ∧ deriveSeed [0x74, 0x65, 0x73, 0x74] = 0xcd6b8f09#32) ∧
  (digestBytes (md5Digest [0x54, 0x65, 0x73, 0x74]) = [0x0c, 0xbc, 0x66, 0x11, 0xf5, 0x54, 0x0b, 0xd0, 0x80, 0x9a,
      0x38, 0x8d, 0xc9, 0x5a, 0x61, 0x5b] ∧ deriveSeed [0x54, 0x65, 0x73, 0x74] = 0x1166bc0c#32)

/-- For every byte sequence below `2^61` bytes, the run `HINIT`, its bytes, `HFIN`, started in any state, answers `OK`
to every command and returns and stores the seed of the sequence, whatever the state was (R109). -/
def Obligations.DeriveRunComputesSeed : Prop :=
  ∀ (s : State) (m : List Byte) (rest : List HostEvent), m.length < 2 ^ 61 →
    ∃ t, run (m.length + 2) (s.withEvents (present (deriveCmds m) ++ rest)) = .next t ∧ t.events = rest ∧
      t.responses = s.responses ++ (List.replicate (m.length + 1) ⟨.ok, 0#32⟩ ++ [⟨.ok, deriveSeed m⟩]) ∧
      t.seed = deriveSeed m ∧ t.seedValid = true ∧ t.hopen = false ∧
      SameTwister s t ∧ SameGrid s t ∧ SameErr s t

/-! ## Twister -/

/-- Seeding (R121): the ascending in-place loop over any old array gives the seeded array, whose words satisfy the
recurrence; and the worked words of seed 1. -/
def Obligations.SeedingLoopGivesSeedArray : Prop :=
  (∀ (s : Word) (mt : Vector Word 624), seedInPlace s mt = seedArray s) ∧
  (∀ s : Word, (seedArray s)[0] = s ∧ ∀ i : Fin 623,
    ((seedArray s)[i.val + 1]).toNat =
      (1812433253 * ((seedArray s)[i.val] ^^^ ((seedArray s)[i.val] >>> 30)).toNat + (i.val + 1)) % 2 ^ 32) ∧
  1812433253 * 0x6c078967 + 2 = 3284914300205028517 ∧ (seedArray 1#32)[0] = 1#32 ∧
  (seedArray 1#32)[1] = 0x6c078966#32 ∧ (seedArray 1#32)[2] = 0xdd5254a5#32 ∧ (seedArray 1#32)[3] = 0xb9523b81#32 ∧
  (seedArray 1#32)[397] = 0xaab7be29#32 ∧ (seedArray 1#32)[623] = 0x7b5687a5#32

/-- `Mix` (R123): the top bit of `u` and bits 30:1 of `v` one place lower, xored with `MATRIX_A` when bit 0 of `v`
is 1. -/
def Obligations.MixFormula : Prop :=
  ∀ u v : Word, mix u v =
    (0#1 ++ u.extractLsb' 31 1 ++ v.extractLsb' 1 30 : BitVec 32) ^^^ (if v.getLsbD 0 then 0x9908b0df#32 else 0#32)

/-- The twist is the in-place, ascending loop of spec/41_mt19937_generator.md section 2: each step reads the array as
the earlier steps left it. The model writes it by ranges (notes/assumptions/8.md). -/
def Obligations.TwistIsInPlaceLoop : Prop := ∀ mt : Vector Word 624, twist mt = twistInPlace mt

/-- Tempering (R126): the four stages, the left shifts in wider arithmetic giving the same, and the worked values. -/
def Obligations.TemperStagesAndValues : Prop :=
  (∀ y y1 y2 y3 : Word, y1 = y ^^^ (y >>> 11) → y2 = y1 ^^^ ((y1 <<< 7) &&& 0x9d2c5680#32) →
    y3 = y2 ^^^ ((y2 <<< 15) &&& 0xefc60000#32) → temper y = y3 ^^^ (y3 >>> 18)) ∧
  (∀ y : Word, (((y.setWidth 64 <<< 7) &&& 0x9d2c5680#64).setWidth 32 = (y <<< 7) &&& 0x9d2c5680#32) ∧
    (((y.setWidth 64 <<< 15) &&& 0xefc60000#64).setWidth 32 = (y <<< 15) &&& 0xefc60000#32)) ∧
  0x9cb47a9a#32 ^^^ (0x9cb47a9a#32 >>> 11) = 0x9ca7ec15#32 ∧
  0x9ca7ec15#32 ^^^ ((0x9ca7ec15#32 <<< 7) &&& 0x9d2c5680#32) = 0x8d83ee95#32 ∧
  0x8d83ee95#32 ^^^ ((0x8d83ee95#32 <<< 15) &&& 0xefc60000#32) = 0x6ac1ee95#32 ∧
  0x6ac1ee95#32 ^^^ (0x6ac1ee95#32 >>> 18) = 0x6ac1f425#32 ∧
  temper 0x9cb47a9a#32 = 0x6ac1f425#32 ∧ temper 0#32 = 0#32 ∧ temper 1#32 = 0x00400091#32 ∧
  temper 0x80000000#32 = 0x88102204#32 ∧ temper 0xffffffff#32 = 0x6fe01bf8#32 ∧ temper 0x12345678#32 = 0x2b7e4a2d#32

/-- `MTSEED s` completes in every state, for every seed: it writes the whole array and the cursor, and leaves the seed
register, the grid, the hash kernel and the error record alone (spec/41_mt19937_generator.md section 1). -/
def Obligations.MtseedConstructsGenerator : Prop :=
  ∀ (s : State) (w : Word), ∃ t, exec (.mtseed w) s = .next t ∧
    t.mt = seedArray w ∧ t.idx = 0#10 ∧ t.mtValid = true ∧
    SameHash s t ∧ SameSeed s t ∧ SameGrid s t ∧ SameErr s t ∧ Answered s t [⟨.ok, 0#32⟩]

/-- `MTNEXT` completes on a seeded twister with a legal cursor: it twists when the cursor is 0, returns the tempered
word at the cursor, advances the cursor modulo 624 and leaves the array word untempered
(spec/41_mt19937_generator.md section 4). -/
def Obligations.MtnextExtractsWord : Prop :=
  ∀ (s : State) (h : s.idx.toNat < 624), s.mtValid = true → ∃ t, exec .mtnext s = .next t ∧
    t.mt = (if s.idx = 0#10 then twist s.mt else s.mt) ∧ t.idx.toNat = (s.idx.toNat + 1) % 624 ∧ t.mtValid = true ∧
    SameHash s t ∧ SameSeed s t ∧ SameGrid s t ∧ SameErr s t ∧ Answered s t [⟨.ok, temper (t.mt[s.idx.toNat]'h)⟩]

/-- `MTNEXT` on an unseeded twister is refused with `E_NOMT`: neither the array nor the cursor changes
(spec/41_mt19937_generator.md section 4). -/
def Obligations.MtnextNeedsSeededTwister : Prop :=
  ∀ s : State, s.mtValid = false → ∃ t, exec .mtnext s = .next t ∧ Raised s t .eNomt 0x21#8

/-- The output stream in closed form (R128): `MTSEED w` starts the stream of `w`, each `MTNEXT` at position `n`
returns word `n` of it and moves to position `n + 1`, and no command but `MTSEED`, `MTNEXT` and `GBUILD` moves it. -/
def Obligations.TwisterFollowsStream : Prop :=
  (∀ (s : State) (w : Word), ∃ t, exec (.mtseed w) s = .next t ∧ StreamAt w 0 t) ∧
  (∀ (s : State) (w : Word) (n : Nat), StreamAt w n s → ∃ t, exec .mtnext s = .next t ∧ StreamAt w (n + 1) t ∧
    Answered s t [⟨.ok, streamWord w n⟩]) ∧
  (∀ (s t : State) (w : Word) (n : Nat) (i : Instr), StreamAt w n s → writesTwister i = false → exec i s = .next t →
    StreamAt w n t)

/-- The run `MTSEED w` and `n + 1` times `MTNEXT`, from any state, returns words 0 to `n` of the stream of `w`
(spec/41_mt19937_generator.md section 4). -/
def Obligations.StreamOfConsecutiveExtractions : Prop :=
  ∀ (s : State) (w : Word) (n : Nat) (rest : List HostEvent),
    ∃ t, run (n + 2) (s.withEvents (present (.mtseed w :: List.replicate (n + 1) .mtnext) ++ rest)) = .next t ∧
      t.events = rest ∧ t.idx.toNat = (n + 1) % 624 ∧ t.mt = batch w (n / 624) ∧
      t.responses = s.responses ++ ⟨.ok, 0#32⟩ :: (List.range (n + 1)).map (fun k => ⟨.ok, streamWord w k⟩) ∧
      SameHash s t ∧ SameSeed s t ∧ SameGrid s t ∧ SameErr s t

/-! ## Grid builder -/

/-- `GBUILD` completes while a seed is derived, and its end state in closed form (R144): the once-twisted array of the
seed, cursor 140, both flags 1, each code character from its own draw; a following `MTNEXT` returns word 140. -/
def Obligations.GbuildClosedForm : Prop :=
  ∀ s : State, s.seedValid = true → ∃ t, exec .gbuild s = .next t ∧
    t.mt = twist (seedArray s.seed) ∧ t.idx = 140#10 ∧ t.mtValid = true ∧ t.gridValid = true ∧
    (∀ (k : Fin 35) (j : Fin 4) (d : Fin 624), d.val = 4 * k.val + j.val → ∀ c : Fin 78,
      c.val = (temper (twist (seedArray s.seed))[d]).toNat % 78 → (t.ct[k])[j] = Config.codeAlphabet.bytes[c]) ∧
    SameHash s t ∧ SameSeed s t ∧ SameErr s t ∧ Answered s t [⟨.ok, 0#32⟩] ∧
    ∃ u, exec .mtnext t = .next u ∧ Answered t u [⟨.ok, temper (twist (seedArray s.seed))[140]⟩]

/-- `GBUILD` without a derived seed is refused with `E_NOSEED`: an old grid stays valid and the twister is untouched
(spec/42_grid_builder.md section 2). -/
def Obligations.GbuildNeedsSeed : Prop :=
  ∀ s : State, s.seedValid = false → ∃ t, exec .gbuild s = .next t ∧ Raised s t .eNoseed 0x30#8

/-- The run `BUILD` over the bytes `m`, from any state, answers `OK` to every command and builds the code table of the
seed of `m`: character `j` of code `k` comes from word `4 * k + j` of that seed's stream
(spec/42_grid_builder.md sections 1, 2). -/
def Obligations.BuildRunBuildsGrid : Prop :=
  ∀ (s : State) (m : List Byte) (rest : List HostEvent), m.length < 2 ^ 61 →
    ∃ t, run (m.length + 3) (s.withEvents (present (buildCmds m) ++ rest)) = .next t ∧ t.events = rest ∧
      t.responses = s.responses ++
        (List.replicate (m.length + 1) ⟨.ok, 0#32⟩ ++ [⟨.ok, deriveSeed m⟩, ⟨.ok, 0#32⟩]) ∧
      t.gridValid = true ∧ t.seed = deriveSeed m ∧ t.seedValid = true ∧ t.hopen = false ∧ t.mtValid = true ∧
      t.idx = 140#10 ∧ SameErr s t ∧
      ∀ (k : Fin 35) (j : Fin 4), (t.ct[k])[j] = codeChar Config.codeAlphabet (streamWord (deriveSeed m) (4 * k.val + j.val))

/-- `SYMAT` completes in every state, on every operand: in bounds it answers `OK` with the ASCII code of symbol
`row * 5 + col`, out of either bound `BOUNDS` with 0; nothing changes (spec/42_grid_builder.md section 3). -/
def Obligations.SymatReadsSymbol : Prop :=
  ∀ (s : State) (row col : BitVec 16),
    (row.toNat < 7 ∧ col.toNat < 5 →
      ∃ t d, exec (.symat row col) s = .next t ∧ SameUnits s t ∧ SameErr s t ∧ Answered s t [⟨.ok, d⟩] ∧
        d.toNat = (if row.toNat * 5 + col.toNat ≤ 25 then 0x41 + (row.toNat * 5 + col.toNat)
          else 0x31 + (row.toNat * 5 + col.toNat - 26))) ∧
    (¬(row.toNat < 7 ∧ col.toNat < 5) →
      ∃ t, exec (.symat row col) s = .next t ∧ SameUnits s t ∧ SameErr s t ∧ Answered s t [⟨.bounds, 0#32⟩])

/-- The shape of the grid (R148): `SYMAT` answers `OK` on exactly the operands with `row < 7` and `col < 5`; the 35
values are the bytes of the alphabet, pairwise distinct, in that order; every code has four characters of the code
alphabet, in the state `GBUILD` leaves and then after every command; `CODEFOR` answers `OK` on exactly the 35 symbols and `ABSENT` on every other unit. -/
def Obligations.GridShape : Prop :=
  (∀ (s : State) (row col : BitVec 16), (∃ d, exec (.symat row col) s = .next (respond s .ok d)) ↔
    (row.toNat < 7 ∧ col.toNat < 5)) ∧
  (∀ (s : State) (row col : BitVec 16) (hr : row.toNat < 7) (hc : col.toNat < 5),
    exec (.symat row col) s =
      .next (respond s .ok ((symRom[gridCell ⟨row.toNat, hr⟩ ⟨col.toNat, hc⟩]).setWidth 32))) ∧
  symRom.toList = alphabetChars.map (fun c => BitVec.ofNat 8 c.toNat) ∧ symRom.toList.Nodup ∧
  (∀ s : State, s.seedValid = true → ∃ t, exec .gbuild s = .next t ∧ t.gridValid = true ∧
    ∀ (k : Fin 35) (j : Fin 4), ∃ c : Fin 78, (t.ct[k])[j] = Config.codeAlphabet.bytes[c]) ∧
  (∀ (i : Instr) (s t : State), CodesFromAlphabet s → exec i s = .next t → CodesFromAlphabet t) ∧
  (∀ (s : State) (u : Word), s.gridValid = true →
    ((∃ d, exec (.codefor u) s = .next (respond s .ok d)) ↔ ∃ k : Fin 35, u = symRom[k].setWidth 32) ∧
    (exec (.codefor u) s = .next (respond s .absent 0#32) ↔ ¬∃ k : Fin 35, u = symRom[k].setWidth 32))

/-- `CODEFOR` completes while a grid is built: on symbol `k` it answers `OK` with the four bytes of `CT[k]`, the first
lowest, on any other unit, a lower-case letter too, `ABSENT` with 0; nothing changes
(spec/42_grid_builder.md section 4). -/
def Obligations.CodeforLooksUpCode : Prop :=
  ∀ (s : State) (u : Word), s.gridValid = true →
    (∀ k : Fin 35, u = symRom[k].setWidth 32 → ∃ t d, exec (.codefor u) s = .next t ∧ SameUnits s t ∧ SameErr s t ∧
      Answered s t [⟨.ok, d⟩] ∧ ∀ j : Fin 4, byteOf d j.val = (s.ct[k])[j]) ∧
    ((∀ k : Fin 35, u ≠ symRom[k].setWidth 32) → ∃ t, exec (.codefor u) s = .next t ∧ SameUnits s t ∧ SameErr s t ∧
      Answered s t [⟨.absent, 0#32⟩])

/-- `CODEFOR` and `XLATE` without a grid are refused with `E_NOGRID`, whatever the unit
(spec/60_exceptions.md sections 1, 3). -/
def Obligations.LookupsNeedGrid : Prop :=
  ∀ (s : State) (u : Word), s.gridValid = false →
    (∃ t, exec (.codefor u) s = .next t ∧ Raised s t .eNogrid 0x32#8) ∧
    (∃ t, exec (.xlate u) s = .next t ∧ Raised s t .eNogrid 0x40#8)

/-- No code word is 0 in a state that keeps the invariant: no byte of the code alphabet is 0
(spec/42_grid_builder.md section 4, corner cases). -/
def Obligations.CodeWordIsNotZero : Prop :=
  ∀ (s t : State) (u d : Word), Inv s → s.gridValid = true → exec (.codefor u) s = .next t →
    t.responses = s.responses ++ [⟨.ok, d⟩] → d ≠ 0#32

/-! ## Substitution engine -/

/-- `Upcase` (R155): the ASCII fold, idempotent, and never a lower-case letter. -/
def Obligations.UpcaseFoldsAscii : Prop :=
  ∀ u : Word,
    (0x61 ≤ u.toNat ∧ u.toNat ≤ 0x7A → (upcase u).toNat = u.toNat - 0x20) ∧
    (¬(0x61 ≤ u.toNat ∧ u.toNat ≤ 0x7A) → upcase u = u) ∧
    upcase (upcase u) = upcase u ∧ ¬(0x61 ≤ (upcase u).toNat ∧ (upcase u).toNat ≤ 0x7A)

/-- `SymIndex` (R156) is the inverse of the symbol ROM on 32-bit units: it answers `k` on `SYM[k]` zero extended and
nothing on any other unit, the digit `0` among them. -/
def Obligations.SymIndexInvertsRom : Prop :=
  (∀ (u : Word) (k : Fin 35), symIndex u = some k ↔ u = symRom[k].setWidth 32) ∧
  (∀ u : Word, symIndex u = none ↔ ∀ k : Fin 35, u ≠ symRom[k].setWidth 32) ∧ symIndex 0x30#32 = none ∧
  (∀ u : Word, 256 ≤ u.toNat → symIndex u = none)

/-- `XLATE` completes while a grid is built: a unit that folds to symbol `k` gives `OK` with the four bytes of `CT[k]`,
the first lowest; any other gives `PASS` with the unit itself; nothing changes (spec/43_substitution.md section 2). -/
def Obligations.XlateTransformsUnit : Prop :=
  ∀ (s : State) (u : Word), s.gridValid = true →
    (∀ k : Fin 35, upcase u = symRom[k].setWidth 32 → ∃ t d, exec (.xlate u) s = .next t ∧ SameUnits s t ∧
      SameErr s t ∧ Answered s t [⟨.ok, d⟩] ∧ ∀ j : Fin 4, byteOf d j.val = (s.ct[k])[j]) ∧
    ((∀ k : Fin 35, upcase u ≠ symRom[k].setWidth 32) → ∃ t, exec (.xlate u) s = .next t ∧ SameUnits s t ∧
      SameErr s t ∧ Answered s t [⟨.pass, u⟩])

/-- Lookup folds case in `XLATE` and not in `CODEFOR` (spec/43_substitution.md section 3). -/
def Obligations.XlateFoldsCaseCodeforDoesNot : Prop :=
  ∀ (s : State) (u : Word), exec (.xlate u) s = exec (.xlate (upcase u)) s ∧
    (s.gridValid = true → 0x61 ≤ u.toNat → u.toNat ≤ 0x7A →
      exec (.codefor u) s = .next (respond s .absent 0#32) ∧
      ∃ k : Fin 35, exec (.xlate u) s = .next (respond s .ok (pack s.ct[k])) ∧ k.val = u.toNat - 0x61)

/-- The run of one `XLATE` for each unit, with a grid built, changes no state, and the host assembles exactly
`Transform` of the units, of between `n` and `4 * n` units for `n`; the empty input gives the empty output (R158). -/
def Obligations.XlateRunComputesTransform : Prop :=
  (∀ (s : State) (us : List Word) (rest : List HostEvent), s.gridValid = true →
    ∃ t rs, run us.length (s.withEvents (present (xformCmds us) ++ rest)) = .next t ∧ t.events = rest ∧
      SameUnits s t ∧ SameErr s t ∧ t.responses = s.responses ++ rs ∧ rs.length = us.length ∧
      rs.flatMap hostAppend = transform s.ct us ∧
      us.length ≤ (transform s.ct us).length ∧ (transform s.ct us).length ≤ 4 * us.length) ∧
  (∀ ct, transform ct [] = [])

/-- Where the bytewise `XFORM` gives the bytes of the software's transform (spec/43_substitution.md section 3), for any
uppercase mapping of texts: on a text of which the mapping changes the ASCII letters `a` to `z` alone, and, on every
text, when the host applies the mapping first and its result holds no `a` to `z`. The bytes of a character are the
model's UTF-8 (notes/assumptions/5.md), the shape of the mapping is the model's choice (notes/assumptions/16.md). -/
def Obligations.XformAgreesWithSoftware : Prop :=
  ∀ (ct : Vector (Vector Byte 4) 35) (upper : List Char → List Char) (cs : List Char),
    (upper cs = cs.map asciiUpper →
      transform ct ((utf8Text cs).map (fun b => b.setWidth 32)) =
        (softTransform ct upper cs).map (fun b => b.setWidth 32)) ∧
    ((∀ c ∈ upper cs, ¬(0x61 ≤ c.toNat ∧ c.toNat ≤ 0x7A)) →
      transform ct ((utf8Text (upper cs)).map (fun b => b.setWidth 32)) =
        (softTransform ct upper cs).map (fun b => b.setWidth 32))

/-! ## System -/

/-- `RDCSR` completes on each register it may read, with the register's value and no change, and is refused with
`E_NOSEED` on `SEED` while no seed is derived; the term with CSR number 3, which no word decodes to, ends in
`E_OPERAND` as that encoding does (spec/44_system.md; notes/assumptions/9.md). -/
def Obligations.RdcsrReadsRegisters : Prop :=
  ∀ s : State,
    (∃ t, exec (.rdcsr 0#2) s = .next t ∧ SameUnits s t ∧ SameErr s t ∧ Answered s t [⟨.ok, statusWord s⟩]) ∧
    (s.seedValid = true →
      ∃ t, exec (.rdcsr 1#2) s = .next t ∧ SameUnits s t ∧ SameErr s t ∧ Answered s t [⟨.ok, s.seed⟩]) ∧
    (s.seedValid = false → ∃ t, exec (.rdcsr 1#2) s = .next t ∧ Raised s t .eNoseed 0x01#8) ∧
    (∃ t, exec (.rdcsr 2#2) s = .next t ∧ SameUnits s t ∧ SameErr s t ∧ Answered s t [⟨.ok, errInfoWord s⟩]) ∧
    (∃ t, exec (.rdcsr 3#2) s = .next t ∧ Raised s t .eOperand 0x01#8)

/-- The bits of the `STATUS` and `ERRINFO` words, reserved bits 0 (spec/10_state.md section 8). -/
def Obligations.CsrWordLayout : Prop :=
  ∀ s : State,
    (statusWord s).getLsbD 0 = s.hopen ∧ (statusWord s).getLsbD 1 = s.seedValid ∧
    (statusWord s).getLsbD 2 = s.mtValid ∧ (statusWord s).getLsbD 3 = s.gridValid ∧
    (statusWord s).getLsbD 4 = s.err ∧ (∀ i, 5 ≤ i → (statusWord s).getLsbD i = false) ∧
    (errInfoWord s).extractLsb' 0 4 = s.errCode ∧ (errInfoWord s).extractLsb' 4 4 = 0#4 ∧
    (errInfoWord s).extractLsb' 8 8 = s.errOp ∧ (errInfoWord s).extractLsb' 16 16 = 0#16

/-- The values the `STATUS` word can take in runs from reset: bits 1:0 are `00`, `01` or `10`, bits 3:2 are `00`, `01`
or `11`, bit 4 is free, the others 0, and a valid grid excludes bits 1:0 = `00` (a grid needs a seed, and from the
first `HINIT` on one of `HOPEN` and `SEEDVALID` is 1). These are exactly 16 words. The rule R171 counts 18: see
`RuleR171CountOfStatusWords` and notes/assumptions/7.md. -/
def Obligations.ReachableStatusWords : Prop :=
  (∀ w : Word, (∃ (evs : List HostEvent) (n : Nat) (t : State),
      run n (State.reset.withEvents evs) = .next t ∧ statusWord t = w) ↔
    (w.toNat < 32 ∧ w.extractLsb' 0 2 ≠ 3#2 ∧ w.extractLsb' 2 2 ≠ 2#2 ∧
      ¬(w.extractLsb' 0 2 = 0#2 ∧ w.extractLsb' 2 2 = 3#2))) ∧
  ((List.range 32).filter
    (fun n => n % 4 ≠ 3 ∧ n / 4 % 4 ≠ 2 ∧ ¬(n % 4 = 0 ∧ n / 4 % 4 = 3))).length = 16

/-- R171 as it is written: the `STATUS` words that occur in runs from reset are all those with bits 1:0 `00`, `01` or
`10` and bits 3:2 `00`, `01` or `11`, 18 in number. Expected to fail: `0x0C` and `0x1C` are among them and no run
reaches them (notes/assumptions/7.md). -/
def Obligations.RuleR171CountOfStatusWords : Prop :=
  (∀ w : Word, (∃ (evs : List HostEvent) (n : Nat) (t : State),
      run n (State.reset.withEvents evs) = .next t ∧ statusWord t = w) ↔
    (w.toNat < 32 ∧ w.extractLsb' 0 2 ≠ 3#2 ∧ w.extractLsb' 2 2 ≠ 2#2)) ∧
  ((List.range 32).filter (fun n => n % 4 ≠ 3 ∧ n / 4 % 4 ≠ 2)).length = 18

/-- The `STATUS` words that the invariant of spec/10_state.md section 10 allows are exactly the 18 that
spec/44_system.md names. Two of the 18 are reached by no run (`ReachableStatusWords`, notes/assumptions/7.md). -/
def Obligations.StatusWordsInvariantAllows : Prop :=
  (∀ w : Word, (∃ s : State, Inv s ∧ statusWord s = w) ↔
    (w.toNat < 32 ∧ w.extractLsb' 0 2 ≠ 3#2 ∧ w.extractLsb' 2 2 ≠ 2#2)) ∧
  ((List.range 32).filter (fun n => n % 4 ≠ 3 ∧ n / 4 % 4 ≠ 2)).length = 18

/-! ## Responses -/

/-- The ten status codes and the layout of the 36-bit response word (spec/30_encoding.md section 1): status in bits
35:32, data in bits 31:0; bit 3 of the status is 1 exactly for the error class. -/
def Obligations.StatusCodesAndResponseWord : Prop :=
  (Status.ok.code = 0#4 ∧ Status.pass.code = 1#4 ∧ Status.absent.code = 2#4 ∧ Status.bounds.code = 3#4 ∧
    (Status.error .eIllegal).code = 8#4 ∧ (Status.error .eOperand).code = 9#4 ∧
    (Status.error .eHstate).code = 10#4 ∧ (Status.error .eNoseed).code = 11#4 ∧
    (Status.error .eNomt).code = 12#4 ∧ (Status.error .eNogrid).code = 13#4) ∧
  (∀ r : Response, r.word.extractLsb' 32 4 = r.status.code ∧ r.word.extractLsb' 0 32 = r.data) ∧
  ∀ st : Status, st.code.getLsbD 3 = st.isError
end

