-- ==== Sys2Proof/Laws/State.lean ====
section
/-! SUPPORT. The updates of the state, one lemma for each field of each: what the field holds afterwards. All hold by
definition and are simp lemmas, so that no later proof unfolds a record update. -/

namespace Sys2Proof.Machine

/-! ### respond -/

@[simp] theorem respond_mt (s : State) (st : Status) (d : Word) : (respond s st d).mt = s.mt := rfl
@[simp] theorem respond_idx (s : State) (st : Status) (d : Word) : (respond s st d).idx = s.idx := rfl
@[simp] theorem respond_mtValid (s : State) (st : Status) (d : Word) : (respond s st d).mtValid = s.mtValid := rfl
@[simp] theorem respond_ha (s : State) (st : Status) (d : Word) : (respond s st d).ha = s.ha := rfl
@[simp] theorem respond_hb (s : State) (st : Status) (d : Word) : (respond s st d).hb = s.hb := rfl
@[simp] theorem respond_hc (s : State) (st : Status) (d : Word) : (respond s st d).hc = s.hc := rfl
@[simp] theorem respond_hd (s : State) (st : Status) (d : Word) : (respond s st d).hd = s.hd := rfl
@[simp] theorem respond_hbuf (s : State) (st : Status) (d : Word) : (respond s st d).hbuf = s.hbuf := rfl
@[simp] theorem respond_hfill (s : State) (st : Status) (d : Word) : (respond s st d).hfill = s.hfill := rfl
@[simp] theorem respond_hlen (s : State) (st : Status) (d : Word) : (respond s st d).hlen = s.hlen := rfl
@[simp] theorem respond_hopen (s : State) (st : Status) (d : Word) : (respond s st d).hopen = s.hopen := rfl
@[simp] theorem respond_seed (s : State) (st : Status) (d : Word) : (respond s st d).seed = s.seed := rfl
@[simp] theorem respond_seedValid (s : State) (st : Status) (d : Word) :
    (respond s st d).seedValid = s.seedValid := rfl
@[simp] theorem respond_ct (s : State) (st : Status) (d : Word) : (respond s st d).ct = s.ct := rfl
@[simp] theorem respond_gridValid (s : State) (st : Status) (d : Word) :
    (respond s st d).gridValid = s.gridValid := rfl
@[simp] theorem respond_err (s : State) (st : Status) (d : Word) : (respond s st d).err = s.err := rfl
@[simp] theorem respond_errCode (s : State) (st : Status) (d : Word) : (respond s st d).errCode = s.errCode := rfl
@[simp] theorem respond_errOp (s : State) (st : Status) (d : Word) : (respond s st d).errOp = s.errOp := rfl
@[simp] theorem respond_events (s : State) (st : Status) (d : Word) : (respond s st d).events = s.events := rfl
@[simp] theorem respond_responses (s : State) (st : Status) (d : Word) :
    (respond s st d).responses = s.responses ++ [⟨st, d⟩] := rfl
@[simp] theorem respond_resets (s : State) (st : Status) (d : Word) : (respond s st d).resets = s.resets := rfl

/-! ### recordError -/

@[simp] theorem recordError_mt (s : State) (e : ErrStatus) (op : Byte) : (recordError s e op).mt = s.mt := rfl
@[simp] theorem recordError_idx (s : State) (e : ErrStatus) (op : Byte) : (recordError s e op).idx = s.idx := rfl
@[simp] theorem recordError_mtValid (s : State) (e : ErrStatus) (op : Byte) :
    (recordError s e op).mtValid = s.mtValid := rfl
@[simp] theorem recordError_ha (s : State) (e : ErrStatus) (op : Byte) : (recordError s e op).ha = s.ha := rfl
@[simp] theorem recordError_hb (s : State) (e : ErrStatus) (op : Byte) : (recordError s e op).hb = s.hb := rfl
@[simp] theorem recordError_hc (s : State) (e : ErrStatus) (op : Byte) : (recordError s e op).hc = s.hc := rfl
@[simp] theorem recordError_hd (s : State) (e : ErrStatus) (op : Byte) : (recordError s e op).hd = s.hd := rfl
@[simp] theorem recordError_hbuf (s : State) (e : ErrStatus) (op : Byte) : (recordError s e op).hbuf = s.hbuf := rfl
@[simp] theorem recordError_hfill (s : State) (e : ErrStatus) (op : Byte) :
    (recordError s e op).hfill = s.hfill := rfl
@[simp] theorem recordError_hlen (s : State) (e : ErrStatus) (op : Byte) : (recordError s e op).hlen = s.hlen := rfl
@[simp] theorem recordError_hopen (s : State) (e : ErrStatus) (op : Byte) :
    (recordError s e op).hopen = s.hopen := rfl
@[simp] theorem recordError_seed (s : State) (e : ErrStatus) (op : Byte) : (recordError s e op).seed = s.seed := rfl
@[simp] theorem recordError_seedValid (s : State) (e : ErrStatus) (op : Byte) :
    (recordError s e op).seedValid = s.seedValid := rfl
@[simp] theorem recordError_ct (s : State) (e : ErrStatus) (op : Byte) : (recordError s e op).ct = s.ct := rfl
@[simp] theorem recordError_gridValid (s : State) (e : ErrStatus) (op : Byte) :
    (recordError s e op).gridValid = s.gridValid := rfl
@[simp] theorem recordError_err (s : State) (e : ErrStatus) (op : Byte) : (recordError s e op).err = true := rfl
@[simp] theorem recordError_errCode (s : State) (e : ErrStatus) (op : Byte) :
    (recordError s e op).errCode = if s.err then s.errCode else e.code := rfl
@[simp] theorem recordError_errOp (s : State) (e : ErrStatus) (op : Byte) :
    (recordError s e op).errOp = if s.err then s.errOp else op := rfl
@[simp] theorem recordError_events (s : State) (e : ErrStatus) (op : Byte) :
    (recordError s e op).events = s.events := rfl
@[simp] theorem recordError_responses (s : State) (e : ErrStatus) (op : Byte) :
    (recordError s e op).responses = s.responses := rfl
@[simp] theorem recordError_resets (s : State) (e : ErrStatus) (op : Byte) :
    (recordError s e op).resets = s.resets := rfl

/-! ### raise -/

@[simp] theorem raise_mt (s : State) (e : ErrStatus) (op : Byte) : (raise s e op).mt = s.mt := rfl
@[simp] theorem raise_idx (s : State) (e : ErrStatus) (op : Byte) : (raise s e op).idx = s.idx := rfl
@[simp] theorem raise_mtValid (s : State) (e : ErrStatus) (op : Byte) : (raise s e op).mtValid = s.mtValid := rfl
@[simp] theorem raise_ha (s : State) (e : ErrStatus) (op : Byte) : (raise s e op).ha = s.ha := rfl
@[simp] theorem raise_hb (s : State) (e : ErrStatus) (op : Byte) : (raise s e op).hb = s.hb := rfl
@[simp] theorem raise_hc (s : State) (e : ErrStatus) (op : Byte) : (raise s e op).hc = s.hc := rfl
@[simp] theorem raise_hd (s : State) (e : ErrStatus) (op : Byte) : (raise s e op).hd = s.hd := rfl
@[simp] theorem raise_hbuf (s : State) (e : ErrStatus) (op : Byte) : (raise s e op).hbuf = s.hbuf := rfl
@[simp] theorem raise_hfill (s : State) (e : ErrStatus) (op : Byte) : (raise s e op).hfill = s.hfill := rfl
@[simp] theorem raise_hlen (s : State) (e : ErrStatus) (op : Byte) : (raise s e op).hlen = s.hlen := rfl
@[simp] theorem raise_hopen (s : State) (e : ErrStatus) (op : Byte) : (raise s e op).hopen = s.hopen := rfl
@[simp] theorem raise_seed (s : State) (e : ErrStatus) (op : Byte) : (raise s e op).seed = s.seed := rfl
@[simp] theorem raise_seedValid (s : State) (e : ErrStatus) (op : Byte) :
    (raise s e op).seedValid = s.seedValid := rfl
@[simp] theorem raise_ct (s : State) (e : ErrStatus) (op : Byte) : (raise s e op).ct = s.ct := rfl
@[simp] theorem raise_gridValid (s : State) (e : ErrStatus) (op : Byte) :
    (raise s e op).gridValid = s.gridValid := rfl
@[simp] theorem raise_err (s : State) (e : ErrStatus) (op : Byte) : (raise s e op).err = true := rfl
@[simp] theorem raise_errCode (s : State) (e : ErrStatus) (op : Byte) :
    (raise s e op).errCode = if s.err then s.errCode else e.code := rfl
@[simp] theorem raise_errOp (s : State) (e : ErrStatus) (op : Byte) :
    (raise s e op).errOp = if s.err then s.errOp else op := rfl
@[simp] theorem raise_events (s : State) (e : ErrStatus) (op : Byte) : (raise s e op).events = s.events := rfl
@[simp] theorem raise_responses (s : State) (e : ErrStatus) (op : Byte) :
    (raise s e op).responses = s.responses ++ [⟨.error e, 0#32⟩] := rfl
@[simp] theorem raise_resets (s : State) (e : ErrStatus) (op : Byte) : (raise s e op).resets = s.resets := rfl

/-! ### State.withEvents -/

@[simp] theorem State.withEvents_mt (s : State) (evs : List HostEvent) : (s.withEvents evs).mt = s.mt := rfl
@[simp] theorem State.withEvents_idx (s : State) (evs : List HostEvent) : (s.withEvents evs).idx = s.idx := rfl
@[simp] theorem State.withEvents_mtValid (s : State) (evs : List HostEvent) :
    (s.withEvents evs).mtValid = s.mtValid := rfl
@[simp] theorem State.withEvents_ha (s : State) (evs : List HostEvent) : (s.withEvents evs).ha = s.ha := rfl
@[simp] theorem State.withEvents_hb (s : State) (evs : List HostEvent) : (s.withEvents evs).hb = s.hb := rfl
@[simp] theorem State.withEvents_hc (s : State) (evs : List HostEvent) : (s.withEvents evs).hc = s.hc := rfl
@[simp] theorem State.withEvents_hd (s : State) (evs : List HostEvent) : (s.withEvents evs).hd = s.hd := rfl
@[simp] theorem State.withEvents_hbuf (s : State) (evs : List HostEvent) : (s.withEvents evs).hbuf = s.hbuf := rfl
@[simp] theorem State.withEvents_hfill (s : State) (evs : List HostEvent) : (s.withEvents evs).hfill = s.hfill := rfl
@[simp] theorem State.withEvents_hlen (s : State) (evs : List HostEvent) : (s.withEvents evs).hlen = s.hlen := rfl
@[simp] theorem State.withEvents_hopen (s : State) (evs : List HostEvent) : (s.withEvents evs).hopen = s.hopen := rfl
@[simp] theorem State.withEvents_seed (s : State) (evs : List HostEvent) : (s.withEvents evs).seed = s.seed := rfl
@[simp] theorem State.withEvents_seedValid (s : State) (evs : List HostEvent) :
    (s.withEvents evs).seedValid = s.seedValid := rfl
@[simp] theorem State.withEvents_ct (s : State) (evs : List HostEvent) : (s.withEvents evs).ct = s.ct := rfl
@[simp] theorem State.withEvents_gridValid (s : State) (evs : List HostEvent) :
    (s.withEvents evs).gridValid = s.gridValid := rfl
@[simp] theorem State.withEvents_err (s : State) (evs : List HostEvent) : (s.withEvents evs).err = s.err := rfl
@[simp] theorem State.withEvents_errCode (s : State) (evs : List HostEvent) :
    (s.withEvents evs).errCode = s.errCode := rfl
@[simp] theorem State.withEvents_errOp (s : State) (evs : List HostEvent) : (s.withEvents evs).errOp = s.errOp := rfl
@[simp] theorem State.withEvents_events (s : State) (evs : List HostEvent) : (s.withEvents evs).events = evs := rfl
@[simp] theorem State.withEvents_responses (s : State) (evs : List HostEvent) :
    (s.withEvents evs).responses = s.responses := rfl
@[simp] theorem State.withEvents_resets (s : State) (evs : List HostEvent) :
    (s.withEvents evs).resets = s.resets := rfl

/-! ### resetWith -/

@[simp] theorem resetWith_mt (c : ResetContents) (s : State) : (resetWith c s).mt = c.mt := rfl
@[simp] theorem resetWith_idx (c : ResetContents) (s : State) : (resetWith c s).idx = 0#10 := rfl
@[simp] theorem resetWith_mtValid (c : ResetContents) (s : State) : (resetWith c s).mtValid = false := rfl
@[simp] theorem resetWith_ha (c : ResetContents) (s : State) : (resetWith c s).ha = c.ha := rfl
@[simp] theorem resetWith_hb (c : ResetContents) (s : State) : (resetWith c s).hb = c.hb := rfl
@[simp] theorem resetWith_hc (c : ResetContents) (s : State) : (resetWith c s).hc = c.hc := rfl
@[simp] theorem resetWith_hd (c : ResetContents) (s : State) : (resetWith c s).hd = c.hd := rfl
@[simp] theorem resetWith_hbuf (c : ResetContents) (s : State) : (resetWith c s).hbuf = c.hbuf := rfl
@[simp] theorem resetWith_hfill (c : ResetContents) (s : State) : (resetWith c s).hfill = c.hfill := rfl
@[simp] theorem resetWith_hlen (c : ResetContents) (s : State) : (resetWith c s).hlen = c.hlen := rfl
@[simp] theorem resetWith_hopen (c : ResetContents) (s : State) : (resetWith c s).hopen = false := rfl
@[simp] theorem resetWith_seed (c : ResetContents) (s : State) : (resetWith c s).seed = c.seed := rfl
@[simp] theorem resetWith_seedValid (c : ResetContents) (s : State) : (resetWith c s).seedValid = false := rfl
@[simp] theorem resetWith_ct (c : ResetContents) (s : State) : (resetWith c s).ct = c.ct := rfl
@[simp] theorem resetWith_gridValid (c : ResetContents) (s : State) : (resetWith c s).gridValid = false := rfl
@[simp] theorem resetWith_err (c : ResetContents) (s : State) : (resetWith c s).err = false := rfl
@[simp] theorem resetWith_errCode (c : ResetContents) (s : State) : (resetWith c s).errCode = 0#4 := rfl
@[simp] theorem resetWith_errOp (c : ResetContents) (s : State) : (resetWith c s).errOp = 0#8 := rfl
@[simp] theorem resetWith_events (c : ResetContents) (s : State) : (resetWith c s).events = s.events := rfl
@[simp] theorem resetWith_responses (c : ResetContents) (s : State) : (resetWith c s).responses = s.responses := rfl
@[simp] theorem resetWith_resets (c : ResetContents) (s : State) : (resetWith c s).resets = s.resets + 1 := rfl

/-! ### State.withChain -/

@[simp] theorem State.withChain_mt (s : State) (q : Md5Chain) : (s.withChain q).mt = s.mt := rfl
@[simp] theorem State.withChain_idx (s : State) (q : Md5Chain) : (s.withChain q).idx = s.idx := rfl
@[simp] theorem State.withChain_mtValid (s : State) (q : Md5Chain) : (s.withChain q).mtValid = s.mtValid := rfl
@[simp] theorem State.withChain_ha (s : State) (q : Md5Chain) : (s.withChain q).ha = q.a := rfl
@[simp] theorem State.withChain_hb (s : State) (q : Md5Chain) : (s.withChain q).hb = q.b := rfl
@[simp] theorem State.withChain_hc (s : State) (q : Md5Chain) : (s.withChain q).hc = q.c := rfl
@[simp] theorem State.withChain_hd (s : State) (q : Md5Chain) : (s.withChain q).hd = q.d := rfl
@[simp] theorem State.withChain_hbuf (s : State) (q : Md5Chain) : (s.withChain q).hbuf = s.hbuf := rfl
@[simp] theorem State.withChain_hfill (s : State) (q : Md5Chain) : (s.withChain q).hfill = s.hfill := rfl
@[simp] theorem State.withChain_hlen (s : State) (q : Md5Chain) : (s.withChain q).hlen = s.hlen := rfl
@[simp] theorem State.withChain_hopen (s : State) (q : Md5Chain) : (s.withChain q).hopen = s.hopen := rfl
@[simp] theorem State.withChain_seed (s : State) (q : Md5Chain) : (s.withChain q).seed = s.seed := rfl
@[simp] theorem State.withChain_seedValid (s : State) (q : Md5Chain) : (s.withChain q).seedValid = s.seedValid := rfl
@[simp] theorem State.withChain_ct (s : State) (q : Md5Chain) : (s.withChain q).ct = s.ct := rfl
@[simp] theorem State.withChain_gridValid (s : State) (q : Md5Chain) : (s.withChain q).gridValid = s.gridValid := rfl
@[simp] theorem State.withChain_err (s : State) (q : Md5Chain) : (s.withChain q).err = s.err := rfl
@[simp] theorem State.withChain_errCode (s : State) (q : Md5Chain) : (s.withChain q).errCode = s.errCode := rfl
@[simp] theorem State.withChain_errOp (s : State) (q : Md5Chain) : (s.withChain q).errOp = s.errOp := rfl
@[simp] theorem State.withChain_events (s : State) (q : Md5Chain) : (s.withChain q).events = s.events := rfl
@[simp] theorem State.withChain_responses (s : State) (q : Md5Chain) : (s.withChain q).responses = s.responses := rfl
@[simp] theorem State.withChain_resets (s : State) (q : Md5Chain) : (s.withChain q).resets = s.resets := rfl

/-! ### storeByte -/

@[simp] theorem storeByte_mt (s : State) (x : Byte) : (storeByte s x).mt = s.mt := rfl
@[simp] theorem storeByte_idx (s : State) (x : Byte) : (storeByte s x).idx = s.idx := rfl
@[simp] theorem storeByte_mtValid (s : State) (x : Byte) : (storeByte s x).mtValid = s.mtValid := rfl
@[simp] theorem storeByte_ha (s : State) (x : Byte) : (storeByte s x).ha = s.ha := rfl
@[simp] theorem storeByte_hb (s : State) (x : Byte) : (storeByte s x).hb = s.hb := rfl
@[simp] theorem storeByte_hc (s : State) (x : Byte) : (storeByte s x).hc = s.hc := rfl
@[simp] theorem storeByte_hd (s : State) (x : Byte) : (storeByte s x).hd = s.hd := rfl
@[simp] theorem storeByte_hbuf (s : State) (x : Byte) :
    (storeByte s x).hbuf = s.hbuf.set s.hfill.toNat x s.hfill.isLt := rfl
@[simp] theorem storeByte_hfill (s : State) (x : Byte) : (storeByte s x).hfill = s.hfill := rfl
@[simp] theorem storeByte_hlen (s : State) (x : Byte) : (storeByte s x).hlen = s.hlen := rfl
@[simp] theorem storeByte_hopen (s : State) (x : Byte) : (storeByte s x).hopen = s.hopen := rfl
@[simp] theorem storeByte_seed (s : State) (x : Byte) : (storeByte s x).seed = s.seed := rfl
@[simp] theorem storeByte_seedValid (s : State) (x : Byte) : (storeByte s x).seedValid = s.seedValid := rfl
@[simp] theorem storeByte_ct (s : State) (x : Byte) : (storeByte s x).ct = s.ct := rfl
@[simp] theorem storeByte_gridValid (s : State) (x : Byte) : (storeByte s x).gridValid = s.gridValid := rfl
@[simp] theorem storeByte_err (s : State) (x : Byte) : (storeByte s x).err = s.err := rfl
@[simp] theorem storeByte_errCode (s : State) (x : Byte) : (storeByte s x).errCode = s.errCode := rfl
@[simp] theorem storeByte_errOp (s : State) (x : Byte) : (storeByte s x).errOp = s.errOp := rfl
@[simp] theorem storeByte_events (s : State) (x : Byte) : (storeByte s x).events = s.events := rfl
@[simp] theorem storeByte_responses (s : State) (x : Byte) : (storeByte s x).responses = s.responses := rfl
@[simp] theorem storeByte_resets (s : State) (x : Byte) : (storeByte s x).resets = s.resets := rfl

/-! ### State.withFill -/

@[simp] theorem State.withFill_mt (s : State) (n : BitVec 6) : (s.withFill n).mt = s.mt := rfl
@[simp] theorem State.withFill_idx (s : State) (n : BitVec 6) : (s.withFill n).idx = s.idx := rfl
@[simp] theorem State.withFill_mtValid (s : State) (n : BitVec 6) : (s.withFill n).mtValid = s.mtValid := rfl
@[simp] theorem State.withFill_ha (s : State) (n : BitVec 6) : (s.withFill n).ha = s.ha := rfl
@[simp] theorem State.withFill_hb (s : State) (n : BitVec 6) : (s.withFill n).hb = s.hb := rfl
@[simp] theorem State.withFill_hc (s : State) (n : BitVec 6) : (s.withFill n).hc = s.hc := rfl
@[simp] theorem State.withFill_hd (s : State) (n : BitVec 6) : (s.withFill n).hd = s.hd := rfl
@[simp] theorem State.withFill_hbuf (s : State) (n : BitVec 6) : (s.withFill n).hbuf = s.hbuf := rfl
@[simp] theorem State.withFill_hfill (s : State) (n : BitVec 6) : (s.withFill n).hfill = n := rfl
@[simp] theorem State.withFill_hlen (s : State) (n : BitVec 6) : (s.withFill n).hlen = s.hlen := rfl
@[simp] theorem State.withFill_hopen (s : State) (n : BitVec 6) : (s.withFill n).hopen = s.hopen := rfl
@[simp] theorem State.withFill_seed (s : State) (n : BitVec 6) : (s.withFill n).seed = s.seed := rfl
@[simp] theorem State.withFill_seedValid (s : State) (n : BitVec 6) : (s.withFill n).seedValid = s.seedValid := rfl
@[simp] theorem State.withFill_ct (s : State) (n : BitVec 6) : (s.withFill n).ct = s.ct := rfl
@[simp] theorem State.withFill_gridValid (s : State) (n : BitVec 6) : (s.withFill n).gridValid = s.gridValid := rfl
@[simp] theorem State.withFill_err (s : State) (n : BitVec 6) : (s.withFill n).err = s.err := rfl
@[simp] theorem State.withFill_errCode (s : State) (n : BitVec 6) : (s.withFill n).errCode = s.errCode := rfl
@[simp] theorem State.withFill_errOp (s : State) (n : BitVec 6) : (s.withFill n).errOp = s.errOp := rfl
@[simp] theorem State.withFill_events (s : State) (n : BitVec 6) : (s.withFill n).events = s.events := rfl
@[simp] theorem State.withFill_responses (s : State) (n : BitVec 6) : (s.withFill n).responses = s.responses := rfl
@[simp] theorem State.withFill_resets (s : State) (n : BitVec 6) : (s.withFill n).resets = s.resets := rfl

/-! ### openMessage -/

@[simp] theorem openMessage_mt (s : State) : (openMessage s).mt = s.mt := rfl
@[simp] theorem openMessage_idx (s : State) : (openMessage s).idx = s.idx := rfl
@[simp] theorem openMessage_mtValid (s : State) : (openMessage s).mtValid = s.mtValid := rfl
@[simp] theorem openMessage_ha (s : State) : (openMessage s).ha = md5IvA := rfl
@[simp] theorem openMessage_hb (s : State) : (openMessage s).hb = md5IvB := rfl
@[simp] theorem openMessage_hc (s : State) : (openMessage s).hc = md5IvC := rfl
@[simp] theorem openMessage_hd (s : State) : (openMessage s).hd = md5IvD := rfl
@[simp] theorem openMessage_hbuf (s : State) : (openMessage s).hbuf = s.hbuf := rfl
@[simp] theorem openMessage_hfill (s : State) : (openMessage s).hfill = 0#6 := rfl
@[simp] theorem openMessage_hlen (s : State) : (openMessage s).hlen = 0#64 := rfl
@[simp] theorem openMessage_hopen (s : State) : (openMessage s).hopen = true := rfl
@[simp] theorem openMessage_seed (s : State) : (openMessage s).seed = s.seed := rfl
@[simp] theorem openMessage_seedValid (s : State) : (openMessage s).seedValid = false := rfl
@[simp] theorem openMessage_ct (s : State) : (openMessage s).ct = s.ct := rfl
@[simp] theorem openMessage_gridValid (s : State) : (openMessage s).gridValid = s.gridValid := rfl
@[simp] theorem openMessage_err (s : State) : (openMessage s).err = s.err := rfl
@[simp] theorem openMessage_errCode (s : State) : (openMessage s).errCode = s.errCode := rfl
@[simp] theorem openMessage_errOp (s : State) : (openMessage s).errOp = s.errOp := rfl
@[simp] theorem openMessage_events (s : State) : (openMessage s).events = s.events := rfl
@[simp] theorem openMessage_responses (s : State) : (openMessage s).responses = s.responses := rfl
@[simp] theorem openMessage_resets (s : State) : (openMessage s).resets = s.resets := rfl

/-! ### countByte -/

@[simp] theorem countByte_mt (s : State) : (countByte s).mt = s.mt := rfl
@[simp] theorem countByte_idx (s : State) : (countByte s).idx = s.idx := rfl
@[simp] theorem countByte_mtValid (s : State) : (countByte s).mtValid = s.mtValid := rfl
@[simp] theorem countByte_ha (s : State) : (countByte s).ha = s.ha := rfl
@[simp] theorem countByte_hb (s : State) : (countByte s).hb = s.hb := rfl
@[simp] theorem countByte_hc (s : State) : (countByte s).hc = s.hc := rfl
@[simp] theorem countByte_hd (s : State) : (countByte s).hd = s.hd := rfl
@[simp] theorem countByte_hbuf (s : State) : (countByte s).hbuf = s.hbuf := rfl
@[simp] theorem countByte_hfill (s : State) : (countByte s).hfill = s.hfill := rfl
@[simp] theorem countByte_hlen (s : State) : (countByte s).hlen = s.hlen + 1#64 := rfl
@[simp] theorem countByte_hopen (s : State) : (countByte s).hopen = s.hopen := rfl
@[simp] theorem countByte_seed (s : State) : (countByte s).seed = s.seed := rfl
@[simp] theorem countByte_seedValid (s : State) : (countByte s).seedValid = s.seedValid := rfl
@[simp] theorem countByte_ct (s : State) : (countByte s).ct = s.ct := rfl
@[simp] theorem countByte_gridValid (s : State) : (countByte s).gridValid = s.gridValid := rfl
@[simp] theorem countByte_err (s : State) : (countByte s).err = s.err := rfl
@[simp] theorem countByte_errCode (s : State) : (countByte s).errCode = s.errCode := rfl
@[simp] theorem countByte_errOp (s : State) : (countByte s).errOp = s.errOp := rfl
@[simp] theorem countByte_events (s : State) : (countByte s).events = s.events := rfl
@[simp] theorem countByte_responses (s : State) : (countByte s).responses = s.responses := rfl
@[simp] theorem countByte_resets (s : State) : (countByte s).resets = s.resets := rfl

/-! ### takeSeed -/

@[simp] theorem takeSeed_mt (s : State) : (takeSeed s).mt = s.mt := rfl
@[simp] theorem takeSeed_idx (s : State) : (takeSeed s).idx = s.idx := rfl
@[simp] theorem takeSeed_mtValid (s : State) : (takeSeed s).mtValid = s.mtValid := rfl
@[simp] theorem takeSeed_ha (s : State) : (takeSeed s).ha = s.ha := rfl
@[simp] theorem takeSeed_hb (s : State) : (takeSeed s).hb = s.hb := rfl
@[simp] theorem takeSeed_hc (s : State) : (takeSeed s).hc = s.hc := rfl
@[simp] theorem takeSeed_hd (s : State) : (takeSeed s).hd = s.hd := rfl
@[simp] theorem takeSeed_hbuf (s : State) : (takeSeed s).hbuf = s.hbuf := rfl
@[simp] theorem takeSeed_hfill (s : State) : (takeSeed s).hfill = s.hfill := rfl
@[simp] theorem takeSeed_hlen (s : State) : (takeSeed s).hlen = s.hlen := rfl
@[simp] theorem takeSeed_hopen (s : State) : (takeSeed s).hopen = false := rfl
@[simp] theorem takeSeed_seed (s : State) : (takeSeed s).seed = s.ha := rfl
@[simp] theorem takeSeed_seedValid (s : State) : (takeSeed s).seedValid = true := rfl
@[simp] theorem takeSeed_ct (s : State) : (takeSeed s).ct = s.ct := rfl
@[simp] theorem takeSeed_gridValid (s : State) : (takeSeed s).gridValid = s.gridValid := rfl
@[simp] theorem takeSeed_err (s : State) : (takeSeed s).err = s.err := rfl
@[simp] theorem takeSeed_errCode (s : State) : (takeSeed s).errCode = s.errCode := rfl
@[simp] theorem takeSeed_errOp (s : State) : (takeSeed s).errOp = s.errOp := rfl
@[simp] theorem takeSeed_events (s : State) : (takeSeed s).events = s.events := rfl
@[simp] theorem takeSeed_responses (s : State) : (takeSeed s).responses = s.responses := rfl
@[simp] theorem takeSeed_resets (s : State) : (takeSeed s).resets = s.resets := rfl

/-! ### seedTwister -/

@[simp] theorem seedTwister_mt (s : State) (w : Word) : (seedTwister s w).mt = seedArray w := rfl
@[simp] theorem seedTwister_idx (s : State) (w : Word) : (seedTwister s w).idx = 0#10 := rfl
@[simp] theorem seedTwister_mtValid (s : State) (w : Word) : (seedTwister s w).mtValid = true := rfl
@[simp] theorem seedTwister_ha (s : State) (w : Word) : (seedTwister s w).ha = s.ha := rfl
@[simp] theorem seedTwister_hb (s : State) (w : Word) : (seedTwister s w).hb = s.hb := rfl
@[simp] theorem seedTwister_hc (s : State) (w : Word) : (seedTwister s w).hc = s.hc := rfl
@[simp] theorem seedTwister_hd (s : State) (w : Word) : (seedTwister s w).hd = s.hd := rfl
@[simp] theorem seedTwister_hbuf (s : State) (w : Word) : (seedTwister s w).hbuf = s.hbuf := rfl
@[simp] theorem seedTwister_hfill (s : State) (w : Word) : (seedTwister s w).hfill = s.hfill := rfl
@[simp] theorem seedTwister_hlen (s : State) (w : Word) : (seedTwister s w).hlen = s.hlen := rfl
@[simp] theorem seedTwister_hopen (s : State) (w : Word) : (seedTwister s w).hopen = s.hopen := rfl
@[simp] theorem seedTwister_seed (s : State) (w : Word) : (seedTwister s w).seed = s.seed := rfl
@[simp] theorem seedTwister_seedValid (s : State) (w : Word) : (seedTwister s w).seedValid = s.seedValid := rfl
@[simp] theorem seedTwister_ct (s : State) (w : Word) : (seedTwister s w).ct = s.ct := rfl
@[simp] theorem seedTwister_gridValid (s : State) (w : Word) : (seedTwister s w).gridValid = s.gridValid := rfl
@[simp] theorem seedTwister_err (s : State) (w : Word) : (seedTwister s w).err = s.err := rfl
@[simp] theorem seedTwister_errCode (s : State) (w : Word) : (seedTwister s w).errCode = s.errCode := rfl
@[simp] theorem seedTwister_errOp (s : State) (w : Word) : (seedTwister s w).errOp = s.errOp := rfl
@[simp] theorem seedTwister_events (s : State) (w : Word) : (seedTwister s w).events = s.events := rfl
@[simp] theorem seedTwister_responses (s : State) (w : Word) : (seedTwister s w).responses = s.responses := rfl
@[simp] theorem seedTwister_resets (s : State) (w : Word) : (seedTwister s w).resets = s.resets := rfl

/-! ### extractNext -/

@[simp] theorem extractNext_mt (s : State) : (extractNext s).mt = extractArray s := rfl
@[simp] theorem extractNext_idx (s : State) : (extractNext s).idx = nextIdx s.idx := rfl
@[simp] theorem extractNext_mtValid (s : State) : (extractNext s).mtValid = s.mtValid := rfl
@[simp] theorem extractNext_ha (s : State) : (extractNext s).ha = s.ha := rfl
@[simp] theorem extractNext_hb (s : State) : (extractNext s).hb = s.hb := rfl
@[simp] theorem extractNext_hc (s : State) : (extractNext s).hc = s.hc := rfl
@[simp] theorem extractNext_hd (s : State) : (extractNext s).hd = s.hd := rfl
@[simp] theorem extractNext_hbuf (s : State) : (extractNext s).hbuf = s.hbuf := rfl
@[simp] theorem extractNext_hfill (s : State) : (extractNext s).hfill = s.hfill := rfl
@[simp] theorem extractNext_hlen (s : State) : (extractNext s).hlen = s.hlen := rfl
@[simp] theorem extractNext_hopen (s : State) : (extractNext s).hopen = s.hopen := rfl
@[simp] theorem extractNext_seed (s : State) : (extractNext s).seed = s.seed := rfl
@[simp] theorem extractNext_seedValid (s : State) : (extractNext s).seedValid = s.seedValid := rfl
@[simp] theorem extractNext_ct (s : State) : (extractNext s).ct = s.ct := rfl
@[simp] theorem extractNext_gridValid (s : State) : (extractNext s).gridValid = s.gridValid := rfl
@[simp] theorem extractNext_err (s : State) : (extractNext s).err = s.err := rfl
@[simp] theorem extractNext_errCode (s : State) : (extractNext s).errCode = s.errCode := rfl
@[simp] theorem extractNext_errOp (s : State) : (extractNext s).errOp = s.errOp := rfl
@[simp] theorem extractNext_events (s : State) : (extractNext s).events = s.events := rfl
@[simp] theorem extractNext_responses (s : State) : (extractNext s).responses = s.responses := rfl
@[simp] theorem extractNext_resets (s : State) : (extractNext s).resets = s.resets := rfl

/-! ### drawChar -/

@[simp] theorem drawChar_mt (ca : CodeAlphabet) (s : State) (k : Fin 35) (j : Fin 4) :
    (drawChar ca s k j).mt = extractArray s := rfl
@[simp] theorem drawChar_idx (ca : CodeAlphabet) (s : State) (k : Fin 35) (j : Fin 4) :
    (drawChar ca s k j).idx = nextIdx s.idx := rfl
@[simp] theorem drawChar_mtValid (ca : CodeAlphabet) (s : State) (k : Fin 35) (j : Fin 4) :
    (drawChar ca s k j).mtValid = s.mtValid := rfl
@[simp] theorem drawChar_ha (ca : CodeAlphabet) (s : State) (k : Fin 35) (j : Fin 4) :
    (drawChar ca s k j).ha = s.ha := rfl
@[simp] theorem drawChar_hb (ca : CodeAlphabet) (s : State) (k : Fin 35) (j : Fin 4) :
    (drawChar ca s k j).hb = s.hb := rfl
@[simp] theorem drawChar_hc (ca : CodeAlphabet) (s : State) (k : Fin 35) (j : Fin 4) :
    (drawChar ca s k j).hc = s.hc := rfl
@[simp] theorem drawChar_hd (ca : CodeAlphabet) (s : State) (k : Fin 35) (j : Fin 4) :
    (drawChar ca s k j).hd = s.hd := rfl
@[simp] theorem drawChar_hbuf (ca : CodeAlphabet) (s : State) (k : Fin 35) (j : Fin 4) :
    (drawChar ca s k j).hbuf = s.hbuf := rfl
@[simp] theorem drawChar_hfill (ca : CodeAlphabet) (s : State) (k : Fin 35) (j : Fin 4) :
    (drawChar ca s k j).hfill = s.hfill := rfl
@[simp] theorem drawChar_hlen (ca : CodeAlphabet) (s : State) (k : Fin 35) (j : Fin 4) :
    (drawChar ca s k j).hlen = s.hlen := rfl
@[simp] theorem drawChar_hopen (ca : CodeAlphabet) (s : State) (k : Fin 35) (j : Fin 4) :
    (drawChar ca s k j).hopen = s.hopen := rfl
@[simp] theorem drawChar_seed (ca : CodeAlphabet) (s : State) (k : Fin 35) (j : Fin 4) :
    (drawChar ca s k j).seed = s.seed := rfl
@[simp] theorem drawChar_seedValid (ca : CodeAlphabet) (s : State) (k : Fin 35) (j : Fin 4) :
    (drawChar ca s k j).seedValid = s.seedValid := rfl
@[simp] theorem drawChar_ct (ca : CodeAlphabet) (s : State) (k : Fin 35) (j : Fin 4) :
    (drawChar ca s k j).ct = setCode s.ct k j (codeChar ca (extractWord s)) := rfl
@[simp] theorem drawChar_gridValid (ca : CodeAlphabet) (s : State) (k : Fin 35) (j : Fin 4) :
    (drawChar ca s k j).gridValid = s.gridValid := rfl
@[simp] theorem drawChar_err (ca : CodeAlphabet) (s : State) (k : Fin 35) (j : Fin 4) :
    (drawChar ca s k j).err = s.err := rfl
@[simp] theorem drawChar_errCode (ca : CodeAlphabet) (s : State) (k : Fin 35) (j : Fin 4) :
    (drawChar ca s k j).errCode = s.errCode := rfl
@[simp] theorem drawChar_errOp (ca : CodeAlphabet) (s : State) (k : Fin 35) (j : Fin 4) :
    (drawChar ca s k j).errOp = s.errOp := rfl
@[simp] theorem drawChar_events (ca : CodeAlphabet) (s : State) (k : Fin 35) (j : Fin 4) :
    (drawChar ca s k j).events = s.events := rfl
@[simp] theorem drawChar_responses (ca : CodeAlphabet) (s : State) (k : Fin 35) (j : Fin 4) :
    (drawChar ca s k j).responses = s.responses := rfl
@[simp] theorem drawChar_resets (ca : CodeAlphabet) (s : State) (k : Fin 35) (j : Fin 4) :
    (drawChar ca s k j).resets = s.resets := rfl

/-! ### State.withGridValid -/

@[simp] theorem State.withGridValid_mt (s : State) (v : Bool) : (s.withGridValid v).mt = s.mt := rfl
@[simp] theorem State.withGridValid_idx (s : State) (v : Bool) : (s.withGridValid v).idx = s.idx := rfl
@[simp] theorem State.withGridValid_mtValid (s : State) (v : Bool) : (s.withGridValid v).mtValid = s.mtValid := rfl
@[simp] theorem State.withGridValid_ha (s : State) (v : Bool) : (s.withGridValid v).ha = s.ha := rfl
@[simp] theorem State.withGridValid_hb (s : State) (v : Bool) : (s.withGridValid v).hb = s.hb := rfl
@[simp] theorem State.withGridValid_hc (s : State) (v : Bool) : (s.withGridValid v).hc = s.hc := rfl
@[simp] theorem State.withGridValid_hd (s : State) (v : Bool) : (s.withGridValid v).hd = s.hd := rfl
@[simp] theorem State.withGridValid_hbuf (s : State) (v : Bool) : (s.withGridValid v).hbuf = s.hbuf := rfl
@[simp] theorem State.withGridValid_hfill (s : State) (v : Bool) : (s.withGridValid v).hfill = s.hfill := rfl
@[simp] theorem State.withGridValid_hlen (s : State) (v : Bool) : (s.withGridValid v).hlen = s.hlen := rfl
@[simp] theorem State.withGridValid_hopen (s : State) (v : Bool) : (s.withGridValid v).hopen = s.hopen := rfl
@[simp] theorem State.withGridValid_seed (s : State) (v : Bool) : (s.withGridValid v).seed = s.seed := rfl
@[simp] theorem State.withGridValid_seedValid (s : State) (v : Bool) :
    (s.withGridValid v).seedValid = s.seedValid := rfl
@[simp] theorem State.withGridValid_ct (s : State) (v : Bool) : (s.withGridValid v).ct = s.ct := rfl
@[simp] theorem State.withGridValid_gridValid (s : State) (v : Bool) : (s.withGridValid v).gridValid = v := rfl
@[simp] theorem State.withGridValid_err (s : State) (v : Bool) : (s.withGridValid v).err = s.err := rfl
@[simp] theorem State.withGridValid_errCode (s : State) (v : Bool) : (s.withGridValid v).errCode = s.errCode := rfl
@[simp] theorem State.withGridValid_errOp (s : State) (v : Bool) : (s.withGridValid v).errOp = s.errOp := rfl
@[simp] theorem State.withGridValid_events (s : State) (v : Bool) : (s.withGridValid v).events = s.events := rfl
@[simp] theorem State.withGridValid_responses (s : State) (v : Bool) :
    (s.withGridValid v).responses = s.responses := rfl
@[simp] theorem State.withGridValid_resets (s : State) (v : Bool) : (s.withGridValid v).resets = s.resets := rfl

/-! ### Compound updates -/

@[simp] theorem State.chain_withChain (s : State) (q : Md5Chain) : (s.withChain q).chain = q := rfl

theorem State.withEvents_events_self (s : State) : s.withEvents s.events = s := rfl

theorem md5Block_eq (s : State) : md5Block s = s.withChain (md5Compress s.chain s.hbuf) := rfl

theorem raise_eq (s : State) (e : ErrStatus) (op : Byte) :
    raise s e op = respond (recordError s e op) (.error e) 0#32 := rfl

theorem applyReset_eq (s : State) : applyReset s = resetWith (Config.resetContents s.resets s.contents) s := rfl

end Sys2Proof.Machine
end

