-- ==== Sys2Proof/Laws/Ops.lean ====
section
/-! SUPPORT. The shared operations: loops, responses, errors, decoding of fields, steps and runs. Each lemma says once
what an operation can do. -/

namespace Sys2Proof.Machine

/-! ## Loops -/

/-- Induction along a loop: what holds before it and is carried by each run holds after it. -/
theorem forFin_induction {σ : Type} {n : Nat} (f : Fin n → σ → σ) (P : Nat → σ → Prop) (s : σ) (h0 : P 0 s)
    (hs : ∀ (i : Fin n) (t : σ), P i.val t → P (i.val + 1) (f i t)) :
    ∀ (k : Nat) (hk : k ≤ n), P k (forFin f k hk s)
  | 0, _ => h0
  | k + 1, hk => hs ⟨k, hk⟩ _ (forFin_induction f P s h0 hs k (Nat.le_of_succ_le hk))

theorem loop_induction {σ : Type} {n : Nat} (f : Fin n → σ → σ) (P : Nat → σ → Prop) (s : σ) (h0 : P 0 s)
    (hs : ∀ (i : Fin n) (t : σ), P i.val t → P (i.val + 1) (f i t)) : P n (loop n f s) :=
  forFin_induction f P s h0 hs n (Nat.le_refl n)

/-- A quantity that no run of a loop changes is unchanged by the loop. -/
theorem loop_preserves {σ τ : Type} {n : Nat} (f : Fin n → σ → σ) (g : σ → τ) (hs : ∀ i t, g (f i t) = g t) (s : σ) :
    g (loop n f s) = g s :=
  loop_induction f (fun _ t => g t = g s) s rfl (fun i t h => (hs i t).trans h)

/-- A property that every run of a loop keeps holds after the loop. -/
theorem loop_keeps {σ : Type} {n : Nat} (f : Fin n → σ → σ) (P : σ → Prop) (hs : ∀ i t, P t → P (f i t)) (s : σ)
    (h : P s) : P (loop n f s) :=
  loop_induction f (fun _ t => P t) s h (fun i t ht => hs i t ht)

/-! ## Frames as relations -/

theorem SameTwister.refl (s : State) : SameTwister s s := ⟨rfl, rfl, rfl⟩
theorem SameHash.refl (s : State) : SameHash s s := ⟨rfl, rfl, rfl, rfl, rfl, rfl, rfl, rfl⟩
theorem SameSeed.refl (s : State) : SameSeed s s := ⟨rfl, rfl⟩
theorem SameGrid.refl (s : State) : SameGrid s s := ⟨rfl, rfl⟩
theorem SameErr.refl (s : State) : SameErr s s := ⟨rfl, rfl, rfl⟩

theorem SameTwister.trans {s t u : State} (h : SameTwister s t) (g : SameTwister t u) : SameTwister s u :=
  ⟨g.1.trans h.1, g.2.1.trans h.2.1, g.2.2.trans h.2.2⟩
theorem SameSeed.trans {s t u : State} (h : SameSeed s t) (g : SameSeed t u) : SameSeed s u :=
  ⟨g.1.trans h.1, g.2.trans h.2⟩
theorem SameGrid.trans {s t u : State} (h : SameGrid s t) (g : SameGrid t u) : SameGrid s u :=
  ⟨g.1.trans h.1, g.2.trans h.2⟩
theorem SameErr.trans {s t u : State} (h : SameErr s t) (g : SameErr t u) : SameErr s u :=
  ⟨g.1.trans h.1, g.2.1.trans h.2.1, g.2.2.trans h.2.2⟩

/-- A response changes no unit. -/
theorem respond_sameUnits (s : State) (st : Status) (d : Word) : SameUnits s (respond s st d) :=
  ⟨SameTwister.refl s, SameHash.refl s, SameSeed.refl s, SameGrid.refl s⟩

theorem respond_answered (s : State) (st : Status) (d : Word) : Answered s (respond s st d) [⟨st, d⟩] :=
  ⟨rfl, rfl, rfl⟩

/-- An answer after an update of the units is an answer. -/
theorem respond_answered_of {s t : State} (h : t.responses = s.responses) (he : t.events = s.events)
    (hr : t.resets = s.resets) (st : Status) (d : Word) : Answered s (respond t st d) [⟨st, d⟩] :=
  ⟨by simp [h], he, hr⟩

/-! ## Statuses -/

/-- The error class is bit 3 of the status code (R71). -/
theorem errStatus_code_range (e : ErrStatus) : 8 ≤ e.code.toNat ∧ e.code.toNat ≤ 13 := by
  cases e <;> decide

theorem errStatus_code_injective {e f : ErrStatus} (h : e.code = f.code) : e = f := by
  cases e <;> cases f <;> first | rfl | (exact absurd h (by decide))

/-! ## Command words -/

theorem extractLsb'_append_high {m n : Nat} (a : BitVec m) (b : BitVec n) : (a ++ b).extractLsb' n m = a := by
  ext i hi
  simp [BitVec.getLsbD_append, BitVec.getLsbD_eq_getElem, hi]

theorem extractLsb'_append_low {m n : Nat} (a : BitVec m) (b : BitVec n) : (a ++ b).extractLsb' 0 n = b := by
  ext i hi
  simp [BitVec.getLsbD_append, BitVec.getLsbD_eq_getElem, hi]

theorem append_extractLsb' {m n : Nat} (w : BitVec (m + n)) : w.extractLsb' n m ++ w.extractLsb' 0 n = w := by
  simp

theorem opField_append (op : Byte) (arg : Word) : opField (op ++ arg) = op := extractLsb'_append_high op arg

theorem argField_append (op : Byte) (arg : Word) : argField (op ++ arg) = arg := extractLsb'_append_low op arg

@[simp] theorem opField_encode (i : Instr) : opField (encode i) = i.opcode := opField_append _ _

@[simp] theorem argField_encode (i : Instr) : argField (encode i) = i.operandWord := argField_append _ _

/-- A command word is its two fields (R72). -/
theorem fields_append (w : Cmd) : opField w ++ argField w = w := append_extractLsb' (m := 8) (n := 32) w

/-! ## Steps and runs -/

theorem step_idle {s : State} (h : s.events = []) : step s = .next s := by simp [step, h]

theorem step_command {s : State} {w : Cmd} {rest : List HostEvent} (h : s.events = .command w :: rest) :
    step s = stepCommand w (s.withEvents rest) := by simp [step, h]

theorem step_reset {s : State} {rest : List HostEvent} (h : s.events = .reset :: rest) :
    step s = .next (applyReset (s.withEvents rest)) := by simp [step, h]

theorem step_abandoned {s : State} {w : Cmd} {rest : List HostEvent} (h : s.events = .abandoned w :: rest) :
    step s = .next (applyReset (s.withEvents rest)) := by simp [step, h]

theorem stepCommand_ok {w : Cmd} {i : Instr} (h : decode w = .ok i) (s : State) : stepCommand w s = exec i s := by
  simp [stepCommand, h]

theorem stepCommand_error {w : Cmd} {e : DecodeError} (h : decode w = .error e) (s : State) :
    stepCommand w s = .next (raiseDecode s e) := by simp [stepCommand, h]

theorem run_succ_of_step {s t : State} (n : Nat) (h : step s = .next t) : run (n + 1) s = run n t := by
  simp [run, h]

/-- Two runs in a row are one run. -/
theorem run_add {s t : State} (m n : Nat) (h : run m s = .next t) : run (m + n) s = run n t := by
  induction m generalizing s with
  | zero =>
    simp only [run, Host.Outcome.next.injEq] at h
    simp [h]
  | succ m ih =>
    rw [Nat.succ_add]
    simp only [run] at h ⊢
    cases hs : step s with
    | next u => rw [hs] at h; exact ih h
    | fault r => rw [hs] at h; cases h
    | refused r => rw [hs] at h; cases h

/-- `run` is the host's run of the machine. -/
theorem run_eq_core (n : Nat) (s : State) : run n s = Host.Core.run Sys2Proof.core n s := by
  induction n generalizing s with
  | zero => rfl
  | succ n ih =>
    have hc : Sys2Proof.core.step s = step s := rfl
    simp only [run, Host.Core.run]
    rw [hc]
    cases step s with
    | next t => exact ih t
    | fault r => rfl
    | refused r => rfl

end Sys2Proof.Machine
end

