-- ==== Sys2Proof/Laws/Twister.lean ====
section
/-! SUPPORT. The twister: the words of the seeded array (R121), the words after a twist in the three ranges of R125,
the cursor, and what an extraction changes. -/

namespace Sys2Proof.Machine

/-! ## Seeding -/

theorem seedFrom_getElem_zero (n i : Nat) (w : Word) (h : 0 < (seedFrom n i w).length) : (seedFrom n i w)[0] = w := by
  cases n with
  | zero => simp [seedFrom] at h
  | succ n => rfl

theorem seedFrom_getElem_succ (n i k : Nat) (w : Word) (h : k + 1 < (seedFrom n i w).length) :
    (seedFrom n i w)[k + 1] = seedNext ((seedFrom n i w)[k]'(by omega)) (i + k + 1) := by
  induction n generalizing i k w with
  | zero => simp [seedFrom] at h
  | succ n ih =>
    cases k with
    | zero =>
      simp only [seedFrom, List.getElem_cons_succ, List.getElem_cons_zero, Nat.add_zero]
      exact seedFrom_getElem_zero n (i + 1) _ _
    | succ k =>
      simp only [seedFrom, List.getElem_cons_succ]
      rw [ih (i + 1) k]
      congr 1
      omega

/-- `MT[0] = s` (R121). -/
theorem seedArray_zero (s : Word) : (seedArray s)[0] = s := rfl

/-- Each later word is made from the word before it (R121). -/
theorem seedArray_succ (s : Word) (i : Nat) (h : i + 1 < 624) :
    (seedArray s)[i + 1] = seedNext ((seedArray s)[i]) (i + 1) := by
  have := seedFrom_getElem_succ 624 0 i s (by rw [seedFrom_length]; exact h)
  simpa [seedArray] using this

/-! ## The twist -/

/-- Word `i` of a run of twist steps. -/
theorem twistRun_getElem (us ts : List Word) (i : Nat) (h : i < (twistRun us ts).length) :
    (twistRun us ts)[i] =
      ts[i]'(by rw [twistRun_length] at h; omega) ^^^
        mix (us[i]'(by rw [twistRun_length] at h; omega)) (us[i + 1]'(by rw [twistRun_length] at h; omega)) := by
  induction us generalizing ts i with
  | nil => simp [twistRun] at h
  | cons u us ih =>
    cases us with
    | nil => simp [twistRun] at h
    | cons v us =>
      cases ts with
      | nil => simp [twistRun] at h
      | cons t ts =>
        cases i with
        | zero => rfl
        | succ i =>
          simp only [twistRun, List.getElem_cons_succ]
          exact ih ts i (by simpa [twistRun] using h)

theorem twistLow_length (mt : Vector Word 624) : (twistLow mt.toList).length = 227 := by
  simp [twistLow, twistRun_length]

theorem twistMid_length (mt : Vector Word 624) : (twistMid mt.toList).length = 227 := by
  simp [twistMid, twistRun_length, twistLow_length]

theorem twistHigh_length (mt : Vector Word 624) : (twistHigh mt.toList).length = 170 := by
  simp [twistHigh, twistRun_length, twistLow_length, twistMid_length]

theorem twist_getElem_of_lt_227 (mt : Vector Word 624) (i : Nat) (h : i < 227) :
    (twist mt)[i] = (twistLow mt.toList)[i]'(by rw [twistLow_length]; exact h) := by
  simp only [twist, Vector.getElem_mk, List.getElem_toArray]
  rw [List.getElem_append_left (by simp [twistLow_length, twistMid_length]; omega),
    List.getElem_append_left (by rw [twistLow_length]; exact h)]

theorem twist_getElem_of_lt_454 (mt : Vector Word 624) (i : Nat) (h : i < 227) :
    (twist mt)[227 + i] = (twistMid mt.toList)[i]'(by rw [twistMid_length]; exact h) := by
  simp only [twist, Vector.getElem_mk, List.getElem_toArray]
  rw [List.getElem_append_left (by simp [twistLow_length, twistMid_length]; omega),
    List.getElem_append_right (by rw [twistLow_length]; omega)]
  simp [twistLow_length]

theorem twist_getElem_of_lt_624 (mt : Vector Word 624) (i : Nat) (h : i < 170) :
    (twist mt)[454 + i] = (twistHigh mt.toList)[i]'(by rw [twistHigh_length]; exact h) := by
  simp only [twist, Vector.getElem_mk, List.getElem_toArray]
  rw [List.getElem_append_right (by simp [twistLow_length, twistMid_length])]
  simp [twistLow_length, twistMid_length]

/-- R125, first row: words 0 to 226. -/
theorem twist_low (mt : Vector Word 624) (i : Nat) (h : i ≤ 226) :
    (twist mt)[i] = mt[i + 397] ^^^ mix mt[i] mt[i + 1] := by
  rw [twist_getElem_of_lt_227 mt i (by omega)]
  simp only [twistLow]
  rw [twistRun_getElem]
  simp [Nat.add_comm]

/-- R125, second row: words 227 to 622; the word xored in is already replaced. -/
theorem twist_mid (mt : Vector Word 624) (i : Nat) (h : 227 ≤ i) (h' : i ≤ 622) :
    (twist mt)[i] = (twist mt)[i - 227]'(by omega) ^^^ mix mt[i] (mt[i + 1]'(by omega)) := by
  by_cases hi : i < 454
  · obtain ⟨j, rfl⟩ := Nat.exists_eq_add_of_le h
    rw [twist_getElem_of_lt_454 mt j (by omega)]
    simp only [twistMid]
    rw [twistRun_getElem]
    have hj : 227 + j - 227 = j := by omega
    simp only [hj]
    rw [twist_getElem_of_lt_227 mt j (by omega)]
    simp [Nat.add_assoc]
  · obtain ⟨j, rfl⟩ := Nat.exists_eq_add_of_le (Nat.le_of_not_lt hi)
    rw [twist_getElem_of_lt_624 mt j (by omega)]
    simp only [twistHigh]
    rw [twistRun_getElem]
    have hj : 454 + j - 227 = 227 + j := by omega
    simp only [hj]
    rw [twist_getElem_of_lt_454 mt j (by omega)]
    rw [List.getElem_append_left (by simp; omega), List.getElem_append_left (by simp; omega)]
    simp [Nat.add_assoc]

/-- R125, third row: the last word reads the new word 0 as its word `i + 1`. -/
theorem twist_last (mt : Vector Word 624) :
    (twist mt)[623] = (twist mt)[396] ^^^ mix mt[623] (twist mt)[0] := by
  have h1 := twist_getElem_of_lt_624 mt 169 (by omega)
  have h2 := twist_getElem_of_lt_454 mt 169 (by omega)
  have h3 := twist_getElem_of_lt_227 mt 0 (by omega)
  simp only [Nat.reduceAdd] at h1 h2
  rw [h1, h2, h3]
  simp only [twistHigh]
  rw [twistRun_getElem, List.getElem_append_left (by simp), List.getElem_append_right (by simp)]
  simp

/-! ## The cursor -/

theorem readMt_of_lt (mt : Vector Word 624) (i : BitVec 10) (h : i.toNat < 624) : readMt mt i = mt[i.toNat] := by
  simp [readMt, h]

theorem nextIdx_toNat (i : BitVec 10) : (nextIdx i).toNat = (i.toNat + 1) % 624 := by
  have : (i.toNat + 1) % 624 < 624 := Nat.mod_lt _ (by decide)
  simp only [nextIdx, BitVec.toNat_ofNat]
  omega

/-- The cursor stays in the array (R23). -/
theorem nextIdx_le (i : BitVec 10) : (nextIdx i).toNat ≤ 623 := by
  have : (i.toNat + 1) % 624 < 624 := Nat.mod_lt _ (by decide)
  rw [nextIdx_toNat]
  omega

theorem extractArray_of_zero {s : State} (h : s.idx = 0#10) : extractArray s = twist s.mt := if_pos h

theorem extractArray_of_ne {s : State} (h : s.idx ≠ 0#10) : extractArray s = s.mt := if_neg h

end Sys2Proof.Machine
end

