-- ==== Sys2Proof/Laws/Grid.lean ====
section
/-! SUPPORT. The grid builder and the operands: which cells and keys there are, reading a code table after a write, and
what filling the table leaves alone. -/

namespace Sys2Proof.Machine

/-! ## Operands -/

theorem cellIndex_of_inside {row col : BitVec 16} (hr : row.toNat < 7) (hc : col.toNat < 5) :
    cellIndex row col = some (gridCell ⟨row.toNat, hr⟩ ⟨col.toNat, hc⟩) := by
  simp [cellIndex, hr, hc]

theorem cellIndex_of_outside {row col : BitVec 16} (h : ¬(row.toNat < 7 ∧ col.toNat < 5)) :
    cellIndex row col = none := dif_neg h

theorem gridCell_val (row : Fin 7) (col : Fin 5) : (gridCell row col).val = row.val * 5 + col.val := rfl

/-- What `SymIndex` can answer (R156). -/
theorem symIndex_cases (u : Word) :
    (∃ k, symIndex u = some k ∧ k.val = u.toNat - 0x41 ∧ 0x41 ≤ u.toNat ∧ u.toNat ≤ 0x5A) ∨
      (∃ k, symIndex u = some k ∧ k.val = 26 + (u.toNat - 0x31) ∧ 0x31 ≤ u.toNat ∧ u.toNat ≤ 0x39) ∨
      (symIndex u = none ∧ ¬(0x41 ≤ u.toNat ∧ u.toNat ≤ 0x5A) ∧ ¬(0x31 ≤ u.toNat ∧ u.toNat ≤ 0x39)) := by
  by_cases h : 0x41 ≤ u.toNat ∧ u.toNat ≤ 0x5A
  · exact .inl ⟨⟨u.toNat - 0x41, by omega⟩, by simp [symIndex, h], rfl, h.1, h.2⟩
  · by_cases g : 0x31 ≤ u.toNat ∧ u.toNat ≤ 0x39
    · exact .inr (.inl ⟨⟨26 + (u.toNat - 0x31), by omega⟩, by simp only [symIndex, dif_neg h, dif_pos g], rfl, g.1, g.2⟩)
    · exact .inr (.inr ⟨by simp only [symIndex, dif_neg h, dif_neg g], h, g⟩)

theorem upcase_of_lower {u : Word} (h : 0x61 ≤ u.toNat ∧ u.toNat ≤ 0x7A) : upcase u = u - 0x20#32 := if_pos h

theorem upcase_of_other {u : Word} (h : ¬(0x61 ≤ u.toNat ∧ u.toNat ≤ 0x7A)) : upcase u = u := if_neg h

theorem codeIndex_val (w : Word) : (codeIndex w).val = w.toNat % 78 := rfl

/-- A drawn character is a character of the code alphabet (R143). -/
theorem codeChar_mem (ca : CodeAlphabet) (w : Word) : ∃ c : Fin 78, codeChar ca w = ca.bytes[c] := ⟨codeIndex w, rfl⟩

/-! ## The code table -/

theorem setCode_same (ct : Vector (Vector Byte 4) 35) (k : Fin 35) (j : Fin 4) (b : Byte) :
    ((setCode ct k j b)[k])[j] = b := by
  simp [setCode]

theorem setCode_other_byte (ct : Vector (Vector Byte 4) 35) (k : Fin 35) (j j' : Fin 4) (b : Byte) (h : j' ≠ j) :
    ((setCode ct k j b)[k])[j'] = (ct[k])[j'] := by
  have hv : j.val ≠ j'.val := fun e => h (Fin.ext e.symm)
  simp [setCode, hv]

theorem setCode_other_entry (ct : Vector (Vector Byte 4) 35) (k k' : Fin 35) (j : Fin 4) (b : Byte) (h : k' ≠ k) :
    (setCode ct k j b)[k'] = ct[k'] := by
  have hv : k.val ≠ k'.val := fun e => h (Fin.ext e.symm)
  simp [setCode, hv]

/-- A command that leaves the code table alone keeps its characters in the code alphabet. -/
theorem codesFromAlphabet_of_sameGrid {s t : State} (hc : CodesFromAlphabet s) (h : SameGrid s t) :
    CodesFromAlphabet t := by
  obtain ⟨hct, hv⟩ := h
  intro hg k j
  simpa only [hct] using hc (hv.symm.trans hg) k j

/-! ## Filling the table -/

/-- What no draw changes, in the fields that are not the twister array, the cursor and the code table. -/
structure OnlyDrawn (s t : State) : Prop where
  mtValid : t.mtValid = s.mtValid
  hash : SameHash s t
  seed : SameSeed s t
  gridValid : t.gridValid = s.gridValid
  err : SameErr s t
  responses : t.responses = s.responses
  events : t.events = s.events
  resets : t.resets = s.resets

theorem OnlyDrawn.refl (s : State) : OnlyDrawn s s :=
  ⟨rfl, SameHash.refl s, SameSeed.refl s, rfl, SameErr.refl s, rfl, rfl, rfl⟩

theorem OnlyDrawn.draw {s t : State} (h : OnlyDrawn s t) (ca : CodeAlphabet) (k : Fin 35) (j : Fin 4) :
    OnlyDrawn s (drawChar ca t k j) :=
  ⟨h.mtValid, h.hash, h.seed, h.gridValid, h.err, h.responses, h.events, h.resets⟩

/-- Filling the table is a sequence of 140 draws in row-major order: what every draw keeps, the filling keeps. -/
theorem fillTable_keeps (ca : CodeAlphabet) (P : State → Prop)
    (hd : ∀ t k j, P t → P (drawChar ca t k j)) (s : State) (h : P s) : P (fillTable ca s) :=
  loop_keeps _ P (fun row t ht =>
    loop_keeps _ P (fun col u hu =>
      loop_keeps _ P (fun j v hv => hd v (gridCell row col) j hv) u hu) t ht) s h

/-- The same with the number of draws made so far: draw `4 * k + j` is byte `j` of entry `k` (R141). -/
theorem fillTable_induction (ca : CodeAlphabet) (P : Nat → State → Prop)
    (hd : ∀ (k : Fin 35) (j : Fin 4) (t : State), P (4 * k.val + j.val) t →
      P (4 * k.val + j.val + 1) (drawChar ca t k j))
    (s : State) (h : P 0 s) : P 140 (fillTable ca s) := by
  have cell : ∀ (k : Fin 35) (t : State), P (4 * k.val) t →
      P (4 * (k.val + 1)) (loop 4 (fun j t => drawChar ca t k j) t) := fun k t ht =>
    loop_induction _ (fun n t => P (4 * k.val + n) t) t ht (fun j u hu => hd k j u hu)
  have row : ∀ (r : Fin 7) (t : State), P (20 * r.val) t →
      P (20 * (r.val + 1)) (loop 5 (fun col => loop 4 (fun j t => drawChar ca t (gridCell r col) j)) t) :=
    fun r t ht => by
      have hl := loop_induction (n := 5) (fun col => loop 4 (fun j t => drawChar ca t (gridCell r col) j))
        (fun n t => P (20 * r.val + 4 * n) t) t ht (fun col u hu => ?_)
      · have h20 : 20 * (r.val + 1) = 20 * r.val + 4 * 5 := by omega
        rw [h20]
        exact hl
      have hg : 4 * (gridCell r col).val = 20 * r.val + 4 * col.val := by rw [gridCell_val]; omega
      have := cell (gridCell r col) u (by rw [hg]; exact hu)
      have hg' : 4 * ((gridCell r col).val + 1) = 20 * r.val + 4 * (col.val + 1) := by omega
      rw [hg'] at this
      exact this
  exact loop_induction _ (fun n t => P (20 * n) t) s h (fun r t ht => row r t ht)

theorem fillTable_only (ca : CodeAlphabet) (s : State) : OnlyDrawn s (fillTable ca s) :=
  fillTable_keeps ca (OnlyDrawn s) (fun _ k j h => h.draw ca k j) s (OnlyDrawn.refl s)

/-- What a grid construction leaves alone (R44): the hash kernel, the seed register, the error record, the ports. -/
theorem buildGrid_frame (ca : CodeAlphabet) (s : State) :
    SameHash s (buildGrid ca s) ∧ SameSeed s (buildGrid ca s) ∧ SameErr s (buildGrid ca s) ∧
      (buildGrid ca s).mtValid = true ∧ (buildGrid ca s).gridValid = true ∧
      (buildGrid ca s).responses = s.responses ∧ (buildGrid ca s).events = s.events ∧
      (buildGrid ca s).resets = s.resets := by
  have h := fillTable_only ca (seedTwister (s.withGridValid false) s.seed)
  unfold buildGrid
  generalize fillTable ca (seedTwister (s.withGridValid false) s.seed) = t at h ⊢
  exact ⟨h.hash, h.seed, h.err, h.mtValid, rfl, h.responses, h.events, h.resets⟩

end Sys2Proof.Machine
end

