-- ==== Sys2Proof/Laws/Hash.lean ====
section
/-! SUPPORT. The hash kernel: what absorbing a byte, padding and the final padding can change, and how the fill
moves. -/

namespace Sys2Proof.Machine

/-! ## What the operations on the block buffer leave alone -/

/-- Only the block buffer, its fill and the chaining registers differ. -/
structure OnlyBlock (s t : State) : Prop where
  twister : SameTwister s t
  hlen : t.hlen = s.hlen
  hopen : t.hopen = s.hopen
  seed : SameSeed s t
  grid : SameGrid s t
  err : SameErr s t
  responses : t.responses = s.responses
  events : t.events = s.events
  resets : t.resets = s.resets

theorem OnlyBlock.refl (s : State) : OnlyBlock s s :=
  ⟨SameTwister.refl s, rfl, rfl, SameSeed.refl s, SameGrid.refl s, SameErr.refl s, rfl, rfl, rfl⟩

theorem OnlyBlock.trans {s t u : State} (h : OnlyBlock s t) (g : OnlyBlock t u) : OnlyBlock s u :=
  ⟨h.twister.trans g.twister, g.hlen.trans h.hlen, g.hopen.trans h.hopen, h.seed.trans g.seed, h.grid.trans g.grid,
    h.err.trans g.err, g.responses.trans h.responses, g.events.trans h.events, g.resets.trans h.resets⟩

/-! ## Absorb -/

/-- What `Absorb` can do (R107). -/
theorem absorb_cases (s : State) (x : Byte) :
    (s.hfill = 63#6 ∧ absorb s x = (md5Block (storeByte s x)).withFill 0#6) ∨
      (s.hfill ≠ 63#6 ∧ absorb s x = (storeByte s x).withFill (s.hfill + 1#6)) := by
  unfold absorb
  by_cases h : s.hfill = 63#6
  · exact .inl ⟨h, if_pos h⟩
  · exact .inr ⟨h, if_neg h⟩

/-- A replacement of chain, buffer and fill touches nothing else. The new values are variables here: with
`md5Compress` in their place, comparing the states by unfolding would run the compression. -/
theorem onlyBlock_update (s : State) (q : Md5Chain) (x : Byte) (n : BitVec 6) :
    OnlyBlock s (((storeByte s x).withChain q).withFill n) :=
  ⟨⟨rfl, rfl, rfl⟩, rfl, rfl, ⟨rfl, rfl⟩, ⟨rfl, rfl⟩, ⟨rfl, rfl, rfl⟩, rfl, rfl, rfl⟩

theorem absorb_only (s : State) (x : Byte) : OnlyBlock s (absorb s x) := by
  obtain ⟨_, h⟩ | ⟨_, h⟩ := absorb_cases s x
  · rw [h, md5Block_eq]
    exact onlyBlock_update s _ x 0#6
  · rw [h]
    exact ⟨⟨rfl, rfl, rfl⟩, rfl, rfl, ⟨rfl, rfl⟩, ⟨rfl, rfl⟩, ⟨rfl, rfl, rfl⟩, rfl, rfl, rfl⟩

/-- The fill advances by one and wraps at 64 (R26). -/
theorem absorb_hfill (s : State) (x : Byte) : (absorb s x).hfill = s.hfill + 1#6 := by
  obtain ⟨hf, h⟩ | ⟨_, h⟩ := absorb_cases s x
  · rw [h, hf, State.withFill_hfill]; rfl
  · rw [h, State.withFill_hfill]

theorem absorb_hbuf (s : State) (x : Byte) :
    (absorb s x).hbuf = s.hbuf.set s.hfill.toNat x s.hfill.isLt := by
  obtain ⟨_, h⟩ | ⟨_, h⟩ := absorb_cases s x <;> rw [h, State.withFill_hbuf]
  · rw [md5Block_eq, State.withChain_hbuf, storeByte_hbuf]
  · rw [storeByte_hbuf]

theorem State.withFill_chain (s : State) (n : BitVec 6) : (s.withFill n).chain = s.chain := rfl

theorem storeByte_chain (s : State) (x : Byte) : (storeByte s x).chain = s.chain := rfl

/-- The chaining registers change only when the byte completes a block (R107). -/
theorem absorb_chain (s : State) (x : Byte) :
    (absorb s x).chain = if s.hfill = 63#6 then md5Compress s.chain (absorb s x).hbuf else s.chain := by
  obtain ⟨hf, h⟩ | ⟨hf, h⟩ := absorb_cases s x
  · rw [if_pos hf, h, State.withFill_chain, md5Block_eq, State.chain_withChain, State.withFill_hbuf,
      State.withChain_hbuf, storeByte_chain]
  · rw [if_neg hf, h, State.withFill_chain, storeByte_chain]

/-! ## Padding -/

theorem padZeros_only (n : Nat) (s : State) : OnlyBlock s (padZeros n s) := by
  induction n generalizing s with
  | zero => exact OnlyBlock.refl s
  | succ n ih =>
    unfold padZeros
    split
    · exact OnlyBlock.refl s
    · exact (absorb_only s _).trans (ih _)

theorem padZeros_done (n : Nat) {s : State} (h : s.hfill = 56#6) : padZeros n s = s := by
  cases n <;> simp [padZeros, h]

theorem padZeros_step (n : Nat) {s : State} (h : s.hfill ≠ 56#6) :
    padZeros (n + 1) s = padZeros n (absorb s 0x00#8) := by
  simp [padZeros, h]

/-- Enough turns of the padding loop bring the fill to 56. -/
theorem padZeros_hfill (n : Nat) (s : State) (h : (56#6 - s.hfill).toNat ≤ n) : (padZeros n s).hfill = 56#6 := by
  induction n generalizing s with
  | zero =>
    have : s.hfill = 56#6 := by bv_omega
    exact this
  | succ n ih =>
    by_cases hf : s.hfill = 56#6
    · rw [padZeros_done _ hf, hf]
    · rw [padZeros_step _ hf]
      apply ih
      rw [absorb_hfill]
      bv_omega

/-- The 63 turns `HFIN` allows are enough from any fill (R82, R108). -/
theorem padZeros_hfill_63 (s : State) : (padZeros 63 s).hfill = 56#6 :=
  padZeros_hfill 63 s (by have := (56#6 - s.hfill).isLt; omega)

theorem finalPad_only (s : State) : OnlyBlock s (finalPad s) := by
  unfold finalPad
  exact ((absorb_only s _).trans (padZeros_only _ _)).trans
    (loop_keeps (n := 8) _ (OnlyBlock (padZeros 63 (absorb s 0x80#8)))
      (fun _ t h => h.trans (absorb_only t _)) _ (OnlyBlock.refl _))

/-- After the final padding the buffer is empty again (R108: "here HFILL = 0"). -/
theorem finalPad_hfill (s : State) : (finalPad s).hfill = 0#6 := by
  unfold finalPad
  have h := loop_induction (n := 8) (fun j t => absorb t (lengthByte (s.hlen * 8#64) j))
    (fun k t => t.hfill = 56#6 + BitVec.ofNat 6 k) (padZeros 63 (absorb s 0x80#8))
    (by simpa using padZeros_hfill_63 (absorb s 0x80#8))
    (fun i t h => by
      show (absorb t _).hfill = _
      rw [absorb_hfill, h]
      have hi : BitVec.ofNat 6 (i.val + 1) = BitVec.ofNat 6 i.val + 1#6 := by
        rw [BitVec.ofNat_add]
      rw [hi, BitVec.add_assoc])
  rw [h]
  rfl

/-! ## The chaining registers as fields -/

theorem State.ha_eq_chain (s : State) : s.ha = s.chain.a := rfl
theorem State.hb_eq_chain (s : State) : s.hb = s.chain.b := rfl
theorem State.hc_eq_chain (s : State) : s.hc = s.chain.c := rfl
theorem State.hd_eq_chain (s : State) : s.hd = s.chain.d := rfl

end Sys2Proof.Machine
end

