-- ==== Sys2Proof/Laws/Exec.lean ====
section
/-! SUPPORT. The meanings case by case: what `exec` answers for each command when its prerequisite holds and when it
does not. A claim about a command cites these and never unfolds its meaning. -/

namespace Sys2Proof.Machine

/-! ## Hash kernel -/

theorem exec_hinit (s : State) : exec .hinit s = .next (respond (openMessage s) .ok 0#32) := rfl

theorem exec_hbyte_open {s : State} (h : s.hopen = true) (b : Byte) :
    exec (.hbyte b) s = .next (respond (countByte (absorb s b)) .ok 0#32) := if_pos h

theorem exec_hbyte_closed {s : State} (h : s.hopen = false) (b : Byte) :
    exec (.hbyte b) s = .next (raise s .eHstate 0x11#8) := if_neg (by simp [h])

theorem exec_hfin_open {s : State} (h : s.hopen = true) :
    exec .hfin s = .next (respond (takeSeed (finalPad s)) .ok (finalPad s).ha) := if_pos h

theorem exec_hfin_closed {s : State} (h : s.hopen = false) :
    exec .hfin s = .next (raise s .eHstate 0x12#8) := if_neg (by simp [h])

/-! ## Twister -/

theorem exec_mtseed (w : Word) (s : State) : exec (.mtseed w) s = .next (respond (seedTwister s w) .ok 0#32) := rfl

theorem exec_mtnext_seeded {s : State} (h : s.mtValid = true) :
    exec .mtnext s = .next (respond (extractNext s) .ok (extractWord s)) := if_pos h

theorem exec_mtnext_unseeded {s : State} (h : s.mtValid = false) :
    exec .mtnext s = .next (raise s .eNomt 0x21#8) := if_neg (by simp [h])

/-! ## Grid builder -/

theorem exec_gbuild_seeded {s : State} (h : s.seedValid = true) :
    exec .gbuild s = .next (respond (buildGrid Config.codeAlphabet s) .ok 0#32) := if_pos h

theorem exec_gbuild_unseeded {s : State} (h : s.seedValid = false) :
    exec .gbuild s = .next (raise s .eNoseed 0x30#8) := if_neg (by simp [h])

theorem exec_symat_some {row col : BitVec 16} {k : Fin 35} (h : cellIndex row col = some k) (s : State) :
    exec (.symat row col) s = .next (respond s .ok (symRom[k].setWidth 32)) := by
  simp only [exec, execSymat, h]

theorem exec_symat_none {row col : BitVec 16} (h : cellIndex row col = none) (s : State) :
    exec (.symat row col) s = .next (respond s .bounds 0#32) := by
  simp only [exec, execSymat, h]

theorem exec_codefor_some {s : State} {u : Word} {k : Fin 35} (hg : s.gridValid = true) (h : symIndex u = some k) :
    exec (.codefor u) s = .next (respond s .ok (pack s.ct[k])) := by
  simp only [exec, execCodefor, hg, h, if_true]

theorem exec_codefor_none {s : State} {u : Word} (hg : s.gridValid = true) (h : symIndex u = none) :
    exec (.codefor u) s = .next (respond s .absent 0#32) := by
  simp only [exec, execCodefor, hg, h, if_true]

theorem exec_codefor_noGrid {s : State} (hg : s.gridValid = false) (u : Word) :
    exec (.codefor u) s = .next (raise s .eNogrid 0x32#8) := if_neg (by simp [hg])

/-! ## Substitution engine -/

theorem exec_xlate_some {s : State} {u : Word} {k : Fin 35} (hg : s.gridValid = true)
    (h : symIndex (upcase u) = some k) : exec (.xlate u) s = .next (respond s .ok (pack s.ct[k])) := by
  simp only [exec, execXlate, hg, h, if_true]

theorem exec_xlate_none {s : State} {u : Word} (hg : s.gridValid = true) (h : symIndex (upcase u) = none) :
    exec (.xlate u) s = .next (respond s .pass (upcase u)) := by
  simp only [exec, execXlate, hg, h, if_true]

theorem exec_xlate_noGrid {s : State} (hg : s.gridValid = false) (u : Word) :
    exec (.xlate u) s = .next (raise s .eNogrid 0x40#8) := if_neg (by simp [hg])

/-! ## System -/

theorem exec_rdcsr_status (s : State) : exec (.rdcsr 0#2) s = .next (respond s .ok (statusWord s)) := rfl

theorem exec_rdcsr_seed {s : State} (h : s.seedValid = true) :
    exec (.rdcsr 1#2) s = .next (respond s .ok s.seed) := by
  simp [exec, execRdcsr, h]

theorem exec_rdcsr_noSeed {s : State} (h : s.seedValid = false) :
    exec (.rdcsr 1#2) s = .next (raise s .eNoseed 0x01#8) := by
  simp [exec, execRdcsr, h]

theorem exec_rdcsr_errInfo (s : State) : exec (.rdcsr 2#2) s = .next (respond s .ok (errInfoWord s)) := rfl

theorem exec_rdcsr_absent (s : State) : exec (.rdcsr 3#2) s = .next (raise s .eOperand 0x01#8) := rfl

end Sys2Proof.Machine
end

