-- ==== Sys2Proof/Laws/PerInstr.lean ====
section
/-! SUPPORT. Statements about every command as syntax, made command by command. -/

namespace Sys2Proof.Laws

/-- The encoding of a command puts its opcode byte in bits 39:32 and its operand in bits 31:0 (R72). -/
def EncodedFields.Statement (i : Instr) : Prop := opField (encode i) = i.opcode ∧ argField (encode i) = i.operandWord

theorem EncodedFields.rdcsr (n : BitVec 2) : EncodedFields.Statement (.rdcsr n) :=
  ⟨Machine.opField_encode _, Machine.argField_encode _⟩
theorem EncodedFields.hinit : EncodedFields.Statement .hinit :=
  ⟨Machine.opField_encode _, Machine.argField_encode _⟩
theorem EncodedFields.hbyte (b : Byte) : EncodedFields.Statement (.hbyte b) :=
  ⟨Machine.opField_encode _, Machine.argField_encode _⟩
theorem EncodedFields.hfin : EncodedFields.Statement .hfin :=
  ⟨Machine.opField_encode _, Machine.argField_encode _⟩
theorem EncodedFields.mtseed (w : Word) : EncodedFields.Statement (.mtseed w) :=
  ⟨Machine.opField_encode _, Machine.argField_encode _⟩
theorem EncodedFields.mtnext : EncodedFields.Statement .mtnext :=
  ⟨Machine.opField_encode _, Machine.argField_encode _⟩
theorem EncodedFields.gbuild : EncodedFields.Statement .gbuild :=
  ⟨Machine.opField_encode _, Machine.argField_encode _⟩
theorem EncodedFields.symat (row col : BitVec 16) : EncodedFields.Statement (.symat row col) :=
  ⟨Machine.opField_encode _, Machine.argField_encode _⟩
theorem EncodedFields.codefor (w : Word) : EncodedFields.Statement (.codefor w) :=
  ⟨Machine.opField_encode _, Machine.argField_encode _⟩
theorem EncodedFields.xlate (w : Word) : EncodedFields.Statement (.xlate w) :=
  ⟨Machine.opField_encode _, Machine.argField_encode _⟩

end Sys2Proof.Laws
end

