-- ==== Sys2Proof/Tests/Slice0.lean ====
section
/-! SUPPORT. Tests: the well-formedness smoke test, command words written out from spec/30_encoding.md, one step of
each command on a small state with the values spec/95_test_vectors.md and the rules' worked examples give, and for
every statement with hypotheses a concrete state and operands that meet them. -/

namespace Sys2Proof.Machine.Tests

/-! ## Helpers -/

/-- What a predicate says of the next state; false of a fault or a refusal. -/
def nextIs (o : Host.Outcome State Fault Refusal) (p : State → Bool) : Bool :=
  match o with
  | .next t => p t
  | .fault _ => false
  | .refused _ => false

/-- The last response of a state is the given one. -/
def answers (st : Status) (d : Word) (t : State) : Bool := t.responses == [⟨st, d⟩]

/-- A state with an open, empty message: what `HINIT` leaves from reset, but for the response (R102). -/
def openEmpty : State := openMessage State.reset

/-- An open message of 65 bytes: the fill is 1. -/
def openLong : State := { State.reset with hopen := true, hfill := 1#6, hlen := 65#64 }

/-- A derived seed, that of `test` (R110). -/
def seeded : State := { State.reset with seed := 0xcd6b8f09#32, seedValid := true }

/-- A seeded twister with a given cursor. -/
def twisterAt (i : BitVec 10) : State := { State.reset with mtValid := true, idx := i }

/-- A built grid, all of whose codes are those V31 gives for `A` under the example alphabet, `lHOi`. -/
def gridded : State :=
  { State.reset with
    gridValid := true, mtValid := true
    ct := Vector.replicate 35 #v[0x6c#8, 0x48#8, 0x4f#8, 0x69#8] }

/-- A built grid, all of whose code characters are the first of the code alphabet. -/
def griddedLegal : State :=
  { State.reset with
    gridValid := true, mtValid := true
    ct := Vector.replicate 35 (Vector.replicate 4 Config.codeAlphabet.bytes[0]) }

/-- A state after an error: `RDCSR` with an operand of 3 (R38). -/
def failed : State := { State.reset with err := true, errCode := 9#4, errOp := 0x01#8 }

/-! ## Well-formedness -/

theorem test_wf_refuses_csr_3 : Instr.wf (.rdcsr 3#2) = false := by decide
theorem test_wf_csr_0_to_2 : Instr.wf (.rdcsr 0#2) && Instr.wf (.rdcsr 1#2) && Instr.wf (.rdcsr 2#2) := by decide

/-! ## Decoding: one word of each command, bit by bit from the opcode table of R72 and the formats R73 to R77 -/

theorem test_decode_rdcsr : decode 0b0000000100000000000000000000000000000010#40 = .ok (.rdcsr 2#2) := by decide
theorem test_decode_hinit : decode 0b0001000000000000000000000000000000000000#40 = .ok .hinit := by decide
theorem test_decode_hbyte : decode 0b0001000100000000000000000000000010000001#40 = .ok (.hbyte 0x81#8) := by decide
theorem test_decode_hfin : decode 0b0001001000000000000000000000000000000000#40 = .ok .hfin := by decide
theorem test_decode_mtseed :
    decode 0b0010000010000000000000000000000000000001#40 = .ok (.mtseed 0x80000001#32) := by decide
theorem test_decode_mtnext : decode 0b0010000100000000000000000000000000000000#40 = .ok .mtnext := by decide
theorem test_decode_gbuild : decode 0b0011000000000000000000000000000000000000#40 = .ok .gbuild := by decide
theorem test_decode_symat :
    decode 0b0011000100000000000001010000000000000001#40 = .ok (.symat 5#16 1#16) := by decide
theorem test_decode_codefor :
    decode 0b0011001000000000000000000000000001000001#40 = .ok (.codefor 0x41#32) := by decide
theorem test_decode_xlate : decode 0b0100000000000000000000010110000100000000#40 = .ok (.xlate 0x16100#32) := by decide

/-- V60: illegal opcodes before illegal operands. -/
theorem test_decode_illegal :
    decode 0x0000000000#40 = .error (.illegal 0x00#8) ∧ decode 0x1300000001#40 = .error (.illegal 0x13#8) ∧
      decode 0xFFFFFFFFFF#40 = .error (.illegal 0xFF#8) := by decide

/-- Must-be-zero fields and CSR numbers of 3 and more (R73, R74, R77). -/
theorem test_decode_operand :
    decode 0x1080000000#40 = .error (.operand 0x10#8) ∧ decode 0x1100000100#40 = .error (.operand 0x11#8) ∧
      decode 0x0100000003#40 = .error (.operand 0x01#8) ∧ decode 0x0100000004#40 = .error (.operand 0x01#8) := by
  decide

theorem test_tableWord : decodeTableWord 40 0x3100050001 = some (.symat 5#16 1#16) ∧
    decodeTableWord 40 0x3300000000 = none ∧ decodeTableWord 48 0x1000000000 = none := by decide

/-! ## One step of each command -/

/-- V50: `STATUS` with a seed derived. -/
theorem test_rdcsr_status : nextIs (exec (.rdcsr 0#2) seeded) (answers .ok 0x00000002#32) := by decide +kernel

/-- R38: `ERRINFO` after the refused `RDCSR 3`. -/
theorem test_rdcsr_errInfo : nextIs (exec (.rdcsr 2#2) failed) (answers .ok 0x00000109#32) := by decide +kernel

/-- V1: `HA` after `HINIT`, and the seed discarded. -/
theorem test_hinit : nextIs (exec .hinit seeded)
    (fun t => t.ha == 0x67452301#32 && t.hopen && !t.seedValid && t.seed == 0xcd6b8f09#32) := by decide +kernel

/-- R107: a byte at fill 1 goes to `HBUF[1]` and is counted. -/
theorem test_hbyte : nextIs (exec (.hbyte 0x74#8) openLong)
    (fun t => t.hbuf[1] == 0x74#8 && t.hfill == 2#6 && t.hlen == 66#64) := by decide +kernel

/-- V1: the seed of the empty message (`90_conflicts.md` C1). -/
theorem test_hfin_empty : nextIs (exec .hfin openEmpty) (answers .ok 0xd98c1dd4#32) := by decide +kernel

/-- V3: a message that fills 56 bytes of its block needs two compressions; the fill ends at 0. -/
theorem test_hfin_fill : nextIs (exec .hfin { openLong with hfill := 56#6, hlen := 56#64 })
    (fun t => t.hfill == 0#6 && t.seedValid && !t.hopen) := by decide +kernel

/-- R121: `MT[2]` after `MTSEED 1`. -/
theorem test_mtseed : nextIs (exec (.mtseed 1#32) State.reset)
    (fun t => t.mt[2] == 0xdd5254a5#32 && t.idx == 0#10 && t.mtValid) := by decide +kernel

/-- V12: output 0 of seed 1, the published reference value 1791095845. -/
theorem test_mtnext_first : nextIs (exec .mtnext (seedTwister State.reset 1#32)) (answers .ok 1791095845#32) := by
  decide +kernel

/-- V16: an unseeded twister. -/
theorem test_mtnext_unseeded : nextIs (exec .mtnext State.reset) (answers (.error .eNomt) 0#32) := by decide +kernel

/-- V31: the code of `A` for the passphrase `test`, under the example alphabet. -/
theorem test_gbuild_code : pack (buildGrid default seeded).ct[0] = 0x694f486c#32 := by decide +kernel

/-- V37: no seed, no grid. -/
theorem test_gbuild_noSeed : nextIs (exec .gbuild State.reset) (answers (.error .eNoseed) 0#32) := by decide +kernel

/-- V30: the last cell is `9`. -/
theorem test_symat_last : nextIs (exec (.symat 6#16 4#16) State.reset) (answers .ok 0x39#32) := by decide +kernel

/-- V30: the two bounds are tested separately. -/
theorem test_symat_bounds : nextIs (exec (.symat 0#16 5#16) State.reset) (answers .bounds 0#32) := by decide +kernel

/-- V36: a symbol, packed little-endian. -/
theorem test_codefor_key : nextIs (exec (.codefor 0x41#32) gridded) (answers .ok 0x694f486c#32) := by decide +kernel

/-- V36: no case folding. -/
theorem test_codefor_lower : nextIs (exec (.codefor 0x61#32) gridded) (answers .absent 0#32) := by decide +kernel

/-- V41: a lower-case key is folded. -/
theorem test_xlate_lower : nextIs (exec (.xlate 0x61#32) gridded) (answers .ok 0x694f486c#32) := by decide +kernel

/-- V41: a unit of 256 or more passes through. -/
theorem test_xlate_wide : nextIs (exec (.xlate 0x161#32) gridded) (answers .pass 0x161#32) := by decide +kernel

/-- The first step after reset runs the word placed by `withFetchWord`. -/
theorem test_withFetchWord : nextIs (step (State.reset.withFetchWord 40 0x3100000000)) (answers .ok 0x41#32) := by
  decide +kernel

/-- R200, R202: reset abandons the command. -/
theorem test_abandoned : nextIs (step { failed with events := [.abandoned 0x1000000000#40] })
    (fun t => !t.err && t.errOp == 0#8 && t.responses == [] && t.resets == 1) := by decide +kernel

/-! ## Operations -/

/-- V15. -/
theorem test_temper : temper 0x12345678#32 = 0x2b7e4a2d#32 := by decide +kernel

/-- V11: words of the three ranges of R125 after the first twist of seed 1. -/
theorem test_twist_low : (twist (seedArray 1#32))[226] = 0xe278c955#32 := by decide +kernel
theorem test_twist_mid : (twist (seedArray 1#32))[227] = 0x7b12610f#32 := by decide +kernel
theorem test_twist_last : (twist (seedArray 1#32))[623] = 0x06f82359#32 := by decide +kernel

/-- V35: the largest word. -/
theorem test_codeIndex : codeIndex 0xffffffff#32 = 21 := by decide +kernel

/-! ## Witnesses: for each statement with hypotheses a state and operands that meet them all -/

theorem witness_StepRunsDecodedCommand :
    ({ seeded with events := [.command 0x2100000000#40, .reset] } : State).events =
        .command 0x2100000000#40 :: [.reset] ∧
      decode 0x2100000000#40 = .ok .mtnext := ⟨rfl, by decide⟩

theorem witness_UndefinedOpcodeIsIllegal :
    (State.reset.withEvents [.command 0xFF00000000#40]).events = .command 0xFF00000000#40 :: [] ∧
      opField 0xFF00000000#40 ∉ definedOpcodes ∧ opField 0x4100000000#40 ∉ definedOpcodes := ⟨rfl, by decide⟩

/-- Each of the six causes, on the reset state, at a boundary operand where it has one. -/
theorem witness_ErrorStatusHasItsCause :
    ErrorCause State.reset 0x0000000000#40 .eIllegal ∧ ErrorCause State.reset 0x0100000003#40 .eOperand ∧
      ErrorCause State.reset 0x1100000100#40 .eOperand ∧ ErrorCause State.reset 0x3000000001#40 .eOperand ∧
      ErrorCause State.reset 0x11000000FF#40 .eHstate ∧ ErrorCause State.reset 0x0100000001#40 .eNoseed ∧
      ErrorCause State.reset 0x3000000000#40 .eNoseed ∧ ErrorCause State.reset 0x2100000000#40 .eNomt ∧
      ErrorCause State.reset 0x4000000041#40 .eNogrid := by
  refine ⟨?_, ?_, ?_, ?_, ?_, ?_, ?_, ?_, ?_⟩ <;> simp only [ErrorCause, OperandIllegal] <;> decide +kernel

/-- The second clause: a step that answers an error. -/
theorem witness_ErrorStatusHasItsCause_answer :
    ∃ t, step (State.reset.withEvents [.command 0x2100000000#40]) = .next t ∧
      t.responses = State.reset.responses ++ [⟨.error .eNomt, 0#32⟩] := ⟨_, rfl, rfl⟩

theorem witness_EveryCommandAnswersOnce :
    (failed.withEvents [.command 0x0000000000#40]).events = .command 0x0000000000#40 :: [] := rfl

theorem witness_RaiseRecordsAndAnswers : State.reset.err = false ∧ failed.err = true := ⟨rfl, rfl⟩

/-- `ERR` set; `ERR` clear with an error status, and with another status. -/
theorem witness_ErrorRecordKeepsFirstError :
    (failed.err = true ∧ ∃ t, step (failed.withEvents [.command 0x0000000000#40]) = .next t) ∧
      (State.reset.err = false ∧ ∃ t, step (State.reset.withEvents [.command 0x1200000000#40]) = .next t ∧
        t.responses = [] ++ [⟨.error .eHstate, 0#32⟩]) ∧
      (∃ t, step (State.reset.withEvents [.command 0x1000000000#40]) = .next t ∧
        t.responses = [] ++ [⟨.ok, 0#32⟩] ∧ Status.ok.isError = false) :=
  ⟨⟨rfl, _, rfl⟩, ⟨rfl, _, rfl, rfl⟩, ⟨_, rfl, rfl, rfl⟩⟩

theorem witness_ErrorRecordDisablesNothing :
    (Instr.rdcsr 1#2) ≠ .rdcsr 0#2 ∧ (Instr.rdcsr 1#2) ≠ .rdcsr 2#2 ∧ Instr.gbuild ≠ .rdcsr 0#2 := by decide

theorem witness_ResetEventEntersResetState :
    ((.reset = HostEvent.reset ∨ .reset = HostEvent.abandoned 0x1200000000#40) ∧
        (failed.withEvents [.reset]).events = .reset :: []) ∧
      (failed.withEvents [.abandoned 0x1200000000#40]).events = .abandoned 0x1200000000#40 :: [] :=
  ⟨⟨.inl rfl, rfl⟩, rfl⟩

theorem witness_IdleBlockHoldsItsState : failed.events = [] := rfl

/-- A state of an open message that meets the invariant. -/
theorem inv_openLong : Inv openLong where
  cursor := by intro h; exact absurd h (by decide)
  fill := by intro _; decide
  codes := by intro h; exact absurd h (by decide)
  grid := by intro h; exact absurd h (by decide)
  record := ⟨fun _ => ⟨rfl, rfl⟩, fun h => absurd h (by decide)⟩
  seed := fun _ => rfl

/-- A state with a derived seed and a recorded error that meets the invariant. -/
theorem inv_seeded : Inv { seeded with err := true, errCode := 13#4, errOp := 0x40#8 } where
  cursor := by intro h; exact absurd h (by decide)
  fill := by intro h; exact absurd h (by decide)
  codes := by intro h; exact absurd h (by decide)
  grid := by intro h; exact absurd h (by decide)
  record := ⟨fun h => absurd h (by decide), fun _ => by decide⟩
  seed := by intro h; exact absurd h (by decide)

/-- A state with a built grid that meets the invariant. -/
theorem inv_griddedLegal : Inv griddedLegal where
  cursor := by intro _; decide
  fill := by intro h; exact absurd h (by decide)
  codes := by
    intro _ k j
    exact ⟨0, by simp [griddedLegal]⟩
  grid := fun _ => rfl
  record := ⟨fun _ => ⟨rfl, rfl⟩, fun h => absurd h (by decide)⟩
  seed := by intro h; exact absurd h (by decide)

theorem witness_StepKeepsInvariant :
    ∃ s t : State, Inv s ∧ step s = .next t ∧ s.hopen = true := ⟨openLong, _, inv_openLong, rfl, rfl⟩

/-- An error and a result of each command of R204, from states that meet the invariant. -/
theorem witness_FlagLife :
    (∃ t, exec .mtnext openLong = .next t ∧ t.responses = openLong.responses ++ [⟨.error .eNomt, 0#32⟩]) ∧
      (Inv openLong ∧
        (∃ t, exec .hinit openLong = .next t ∧ t.responses = openLong.responses ++ [⟨.ok, 0#32⟩]) ∧
        (∃ t, exec (.hbyte 0#8) openLong = .next t ∧ t.responses = openLong.responses ++ [⟨.ok, 0#32⟩]) ∧
        (∃ t, exec (.mtseed 0#32) openLong = .next t ∧ t.responses = openLong.responses ++ [⟨.ok, 0#32⟩])) ∧
      (Inv griddedLegal ∧
        (∃ t, exec (.xlate 0x20#32) griddedLegal = .next t ∧ t.responses = [] ++ [⟨.pass, 0x20#32⟩]) ∧
        (∃ t, exec (.codefor 0x20#32) griddedLegal = .next t ∧ t.responses = [] ++ [⟨.absent, 0#32⟩]) ∧
        (∃ t, exec (.symat 7#16 0#16) griddedLegal = .next t ∧ t.responses = [] ++ [⟨.bounds, 0#32⟩])) :=
  ⟨⟨_, rfl, rfl⟩, ⟨inv_openLong, ⟨_, rfl, rfl⟩, ⟨_, exec_hbyte_open rfl _, rfl⟩, ⟨_, rfl, rfl⟩⟩,
    ⟨inv_griddedLegal, ⟨_, rfl, rfl⟩, ⟨_, rfl, rfl⟩, ⟨_, rfl, rfl⟩⟩⟩

/-- The commands of R204 that compute: `HFIN`, `MTNEXT`, `GBUILD` end in `OK`. -/
theorem witness_FlagLife_compute :
    (Inv openLong ∧ ∃ t d, exec .hfin openLong = .next t ∧ t.responses = openLong.responses ++ [⟨.ok, d⟩]) ∧
      (Inv griddedLegal ∧ ∃ t d, exec .mtnext griddedLegal = .next t ∧ t.responses = griddedLegal.responses ++ [⟨.ok, d⟩]) ∧
      (Inv { seeded with err := true, errCode := 13#4, errOp := 0x40#8 } ∧
        ({ seeded with err := true, errCode := 13#4, errOp := 0x40#8 } : State).seedValid = true) :=
  ⟨⟨inv_openLong, _, _, exec_hfin_open rfl, by rw [respond_responses, takeSeed_responses, (finalPad_only openLong).responses]⟩,
    ⟨inv_griddedLegal, _, _, exec_mtnext_seeded rfl, rfl⟩, ⟨inv_seeded, rfl⟩⟩

theorem witness_WriteSetsOfCommands :
    (∃ t, exec .hinit openLong = .next t ∧ t.responses = openLong.responses ++ [⟨.ok, 0#32⟩] ∧
        writesTwister .hinit = false ∧ writesGrid .hinit = false ∧ Status.ok.isError = false) ∧
      (∃ t, exec (.mtseed 1#32) openLong = .next t ∧ writesHash (.mtseed 1#32) = false ∧
        writesSeed (.mtseed 1#32) = false) := ⟨⟨_, rfl, rfl, rfl, rfl, rfl⟩, ⟨_, rfl, rfl, rfl⟩⟩

theorem witness_ReadsMayBeRepeated :
    (∃ row col, Instr.symat 6#16 4#16 = .symat row col) ∧ (∃ u, Instr.codefor 0x41#32 = .codefor u) ∧
      (∃ u, Instr.xlate 0x61#32 = .xlate u) ∧ ∃ n, Instr.rdcsr 1#2 = .rdcsr n :=
  ⟨⟨_, _, rfl⟩, ⟨_, rfl⟩, ⟨_, rfl⟩, ⟨_, rfl⟩⟩

/-- An open message short of a block, and one byte before its end. -/
theorem witness_HbyteAbsorbsByte :
    (openLong.hopen = true ∧ openLong.hfill ≠ 63#6) ∧
      (({ openLong with hfill := 63#6 } : State).hopen = true ∧ ({ openLong with hfill := 63#6 } : State).hfill = 63#6) := by
  decide

theorem witness_HashCommandsNeedOpenMessage : seeded.hopen = false := rfl

/-- Open messages with 55 and with 56 bytes buffered: one compression and two. -/
theorem witness_HfinPadsAndTakesSeed :
    (({ openLong with hfill := 55#6 } : State).hopen = true ∧ ({ openLong with hfill := 55#6 } : State).hfill.toNat ≤ 55) ∧
      (({ openLong with hfill := 56#6 } : State).hopen = true ∧
        ¬({ openLong with hfill := 56#6 } : State).hfill.toNat ≤ 55) := by decide

theorem witness_DeriveRunComputesSeed :
    ([] : List Byte).length < 2 ^ 61 ∧ ([0x74#8, 0x65#8] : List Byte).length < 2 ^ 61 := by decide

theorem witness_BuildRunBuildsGrid : ([0x74#8, 0x65#8, 0x73#8, 0x74#8] : List Byte).length < 2 ^ 61 := by decide

theorem witness_TemperStagesAndValues :
    0x9ca7ec15#32 = 0x9cb47a9a#32 ^^^ (0x9cb47a9a#32 >>> 11) ∧
      0x8d83ee95#32 = 0x9ca7ec15#32 ^^^ ((0x9ca7ec15#32 <<< 7) &&& 0x9d2c5680#32) ∧
      0x6ac1ee95#32 = 0x8d83ee95#32 ^^^ ((0x8d83ee95#32 <<< 15) &&& 0xefc60000#32) := by decide

/-- The cursor at both ends of its range. -/
theorem witness_MtnextExtractsWord :
    ((twisterAt 0#10).idx.toNat < 624 ∧ (twisterAt 0#10).mtValid = true) ∧
      ((twisterAt 623#10).idx.toNat < 624 ∧ (twisterAt 623#10).mtValid = true) := by decide

theorem witness_MtnextNeedsSeededTwister : seeded.mtValid = false := rfl

/-- Position 0 of a stream; a command that does not move it. -/
theorem witness_TwisterFollowsStream :
    StreamAt 1#32 0 (seedTwister State.reset 1#32) ∧ writesTwister .hinit = false ∧
      ∃ t, exec .hinit (seedTwister State.reset 1#32) = .next t := ⟨⟨rfl, rfl, rfl⟩, rfl, _, rfl⟩

theorem witness_GbuildClosedForm : seeded.seedValid = true := rfl

theorem witness_GbuildNeedsSeed : griddedLegal.seedValid = false := rfl

/-- In bounds at `Z`, at `1` and at the last cell; out of bounds by the row alone and by the column alone. -/
theorem witness_SymatReadsSymbol :
    ((5#16).toNat < 7 ∧ (0#16).toNat < 5 ∧ (5#16).toNat * 5 + (0#16).toNat ≤ 25) ∧
      ((5#16).toNat < 7 ∧ (1#16).toNat < 5 ∧ ¬(5#16).toNat * 5 + (1#16).toNat ≤ 25) ∧
      ((6#16).toNat < 7 ∧ (4#16).toNat < 5) ∧
      ¬((7#16).toNat < 7 ∧ (0#16).toNat < 5) ∧ ¬((0#16).toNat < 7 ∧ (5#16).toNat < 5) := by decide

theorem witness_GridShape :
    ((6#16).toNat < 7 ∧ (4#16).toNat < 5) ∧ seeded.seedValid = true ∧
      (CodesFromAlphabet griddedLegal ∧ ∃ t, exec (.mtseed 1#32) griddedLegal = .next t ∧ t.gridValid = true) ∧
      griddedLegal.gridValid = true :=
  ⟨by decide, rfl, ⟨inv_griddedLegal.codes, _, rfl, rfl⟩, rfl⟩

/-- The first and the last symbol, and units that are none: the digit `0` and a lower-case letter. -/
theorem witness_CodeforLooksUpCode :
    gridded.gridValid = true ∧ 0x41#32 = symRom[(0 : Fin 35)].setWidth 32 ∧ 0x39#32 = symRom[(34 : Fin 35)].setWidth 32 ∧
      (∀ k : Fin 35, 0x30#32 ≠ symRom[k].setWidth 32) ∧ (∀ k : Fin 35, 0x61#32 ≠ symRom[k].setWidth 32) :=
  ⟨rfl, by decide +kernel⟩

theorem witness_LookupsNeedGrid : seeded.gridValid = false := rfl

theorem witness_CodeWordIsNotZero :
    Inv griddedLegal ∧ griddedLegal.gridValid = true ∧ ∃ t d, exec (.codefor 0x41#32) griddedLegal = .next t ∧
      t.responses = griddedLegal.responses ++ [⟨.ok, d⟩] := ⟨inv_griddedLegal, rfl, _, _, rfl, rfl⟩

/-- Both ends of the fold and the values beside them. -/
theorem witness_UpcaseFoldsAscii :
    (0x61 ≤ (0x61#32).toNat ∧ (0x61#32).toNat ≤ 0x7A) ∧ (0x61 ≤ (0x7A#32).toNat ∧ (0x7A#32).toNat ≤ 0x7A) ∧
      ¬(0x61 ≤ (0x60#32).toNat ∧ (0x60#32).toNat ≤ 0x7A) ∧ ¬(0x61 ≤ (0x7B#32).toNat ∧ (0x7B#32).toNat ≤ 0x7A) := by
  decide

theorem witness_SymIndexInvertsRom : 256 ≤ (256#32).toNat ∧ 256 ≤ (0x141#32).toNat := by decide

/-- A folded key, a key as it stands, and a unit that is none. -/
theorem witness_XlateTransformsUnit :
    gridded.gridValid = true ∧ upcase 0x7A#32 = symRom[(25 : Fin 35)].setWidth 32 ∧
      upcase 0x31#32 = symRom[(26 : Fin 35)].setWidth 32 ∧ ∀ k : Fin 35, upcase 0x7B#32 ≠ symRom[k].setWidth 32 :=
  ⟨rfl, by decide +kernel⟩

theorem witness_XlateFoldsCaseCodeforDoesNot :
    gridded.gridValid = true ∧ (0x61 ≤ (0x61#32).toNat ∧ (0x61#32).toNat ≤ 0x7A) ∧ (0x7A#32).toNat ≤ 0x7A :=
  ⟨rfl, by decide⟩

theorem witness_XlateRunComputesTransform : gridded.gridValid = true := rfl

/-- A mapping that makes `SS` of a sharp s, as R160 mentions one, and keeps every other character. -/
def sharpUpper (cs : List Char) : List Char := cs.flatMap (fun c => if c.toNat = 0xDF then ['S', 'S'] else [c])

/-- A text with a character above ASCII, under a mapping that is the ASCII fold on it; a text whose mapped form has no
lower-case letter, under a mapping that is not characterwise one to one. -/
theorem witness_XformAgreesWithSoftware :
    ((fun cs => cs.map asciiUpper) ['a', 'Z', '0', '\u00C9'] = ['a', 'Z', '0', '\u00C9'].map asciiUpper) ∧
      ∀ c ∈ sharpUpper ['\u00DF', '1', '\u00C9'], ¬(0x61 ≤ c.toNat ∧ c.toNat ≤ 0x7A) :=
  ⟨rfl, by simp [sharpUpper]⟩

/-- One of the two words of R171 that the invariant allows and no run reaches. -/
theorem witness_StatusWordsInvariantAllows : Inv griddedLegal ∧ statusWord griddedLegal = 0x0C#32 :=
  ⟨inv_griddedLegal, rfl⟩

theorem witness_RdcsrReadsRegisters : seeded.seedValid = true ∧ State.reset.seedValid = false := ⟨rfl, rfl⟩

end Sys2Proof.Machine.Tests
end

