-- ==== Sys2Proof/Proofs/State.lean ====
section
/-! PROOFS. The invariant of spec/10_state.md R39: what a command can do (`exec_cases`), that each update of the units
keeps the six items, and from these that every step keeps them (O17). -/

namespace Sys2Proof.Machine

/-! ## What a command can do -/

/-- What a command that does not end in an error has done to the units before it responds, with the prerequisite it
met (R44, R181). -/
inductive UnitUpdate : Instr → State → State → Prop where
  | rdcsr (n : BitVec 2) (s : State) : UnitUpdate (.rdcsr n) s s
  | hinit (s : State) : UnitUpdate .hinit s (openMessage s)
  | hbyte (b : Byte) {s : State} (hopen : s.hopen = true) : UnitUpdate (.hbyte b) s (countByte (absorb s b))
  | hfin {s : State} (hopen : s.hopen = true) : UnitUpdate .hfin s (takeSeed (finalPad s))
  | mtseed (w : Word) (s : State) : UnitUpdate (.mtseed w) s (seedTwister s w)
  | mtnext {s : State} (hmt : s.mtValid = true) : UnitUpdate .mtnext s (extractNext s)
  | gbuild {s : State} (hseed : s.seedValid = true) : UnitUpdate .gbuild s (buildGrid Config.codeAlphabet s)
  | symat (row col : BitVec 16) (s : State) : UnitUpdate (.symat row col) s s
  | codefor (u : Word) {s : State} (hgrid : s.gridValid = true) : UnitUpdate (.codefor u) s s
  | xlate (u : Word) {s : State} (hgrid : s.gridValid = true) : UnitUpdate (.xlate u) s s

/-- The command raises an error under its own opcode byte, or updates the units and answers a result status. -/
def RaisesOrResponds (i : Instr) (s : State) : Prop :=
  (∃ e, exec i s = .next (raise s e i.opcode)) ∨
    ∃ u st d, UnitUpdate i s u ∧ st.isError = false ∧ exec i s = .next (respond u st d)

theorem raisesOrResponds_of_raise {i : Instr} {s : State} {e : ErrStatus}
    (h : exec i s = .next (raise s e i.opcode)) : RaisesOrResponds i s := .inl ⟨e, h⟩

theorem raisesOrResponds_of_respond {i : Instr} {s u : State} {st : Status} {d : Word}
    (h : exec i s = .next (respond u st d)) (hu : UnitUpdate i s u) (hst : st.isError = false) :
    RaisesOrResponds i s := .inr ⟨u, st, d, hu, hst, h⟩

theorem exec_rdcsr_cases (n : BitVec 2) (s : State) : RaisesOrResponds (.rdcsr n) s := by
  have hn : n = 0#2 ∨ n = 1#2 ∨ n = 2#2 ∨ n = 3#2 := by revert n; decide
  obtain rfl | rfl | rfl | rfl := hn
  · exact raisesOrResponds_of_respond (exec_rdcsr_status s) (.rdcsr _ s) rfl
  · cases h : s.seedValid with
    | true => exact raisesOrResponds_of_respond (exec_rdcsr_seed h) (.rdcsr _ s) rfl
    | false => exact raisesOrResponds_of_raise (exec_rdcsr_noSeed h)
  · exact raisesOrResponds_of_respond (exec_rdcsr_errInfo s) (.rdcsr _ s) rfl
  · exact raisesOrResponds_of_raise (exec_rdcsr_absent s)

theorem exec_symat_cases (row col : BitVec 16) (s : State) : RaisesOrResponds (.symat row col) s := by
  cases h : cellIndex row col with
  | some k => exact raisesOrResponds_of_respond (exec_symat_some h s) (.symat row col s) rfl
  | none => exact raisesOrResponds_of_respond (exec_symat_none h s) (.symat row col s) rfl

theorem exec_codefor_cases (u : Word) (s : State) : RaisesOrResponds (.codefor u) s := by
  cases hg : s.gridValid with
  | false => exact raisesOrResponds_of_raise (exec_codefor_noGrid hg u)
  | true =>
    cases h : symIndex u with
    | some k => exact raisesOrResponds_of_respond (exec_codefor_some hg h) (.codefor u hg) rfl
    | none => exact raisesOrResponds_of_respond (exec_codefor_none hg h) (.codefor u hg) rfl

theorem exec_xlate_cases (u : Word) (s : State) : RaisesOrResponds (.xlate u) s := by
  cases hg : s.gridValid with
  | false => exact raisesOrResponds_of_raise (exec_xlate_noGrid hg u)
  | true =>
    cases h : symIndex (upcase u) with
    | some k => exact raisesOrResponds_of_respond (exec_xlate_some hg h) (.xlate u hg) rfl
    | none => exact raisesOrResponds_of_respond (exec_xlate_none hg h) (.xlate u hg) rfl

/-- What a command can do, in any state: every claim about all commands can start from here. -/
theorem exec_cases (i : Instr) (s : State) : RaisesOrResponds i s := by
  cases i with
  | rdcsr n => exact exec_rdcsr_cases n s
  | hinit => exact raisesOrResponds_of_respond (exec_hinit s) (.hinit s) rfl
  | hbyte b =>
    cases h : s.hopen with
    | true => exact raisesOrResponds_of_respond (exec_hbyte_open h b) (.hbyte b h) rfl
    | false => exact raisesOrResponds_of_raise (exec_hbyte_closed h b)
  | hfin =>
    cases h : s.hopen with
    | true => exact raisesOrResponds_of_respond (exec_hfin_open h) (.hfin h) rfl
    | false => exact raisesOrResponds_of_raise (exec_hfin_closed h)
  | mtseed w => exact raisesOrResponds_of_respond (exec_mtseed w s) (.mtseed w s) rfl
  | mtnext =>
    cases h : s.mtValid with
    | true => exact raisesOrResponds_of_respond (exec_mtnext_seeded h) (.mtnext h) rfl
    | false => exact raisesOrResponds_of_raise (exec_mtnext_unseeded h)
  | gbuild =>
    cases h : s.seedValid with
    | true => exact raisesOrResponds_of_respond (exec_gbuild_seeded h) (.gbuild h) rfl
    | false => exact raisesOrResponds_of_raise (exec_gbuild_unseeded h)
  | symat row col => exact exec_symat_cases row col s
  | codefor u => exact exec_codefor_cases u s
  | xlate u => exact exec_xlate_cases u s

/-! ## The items of the invariant over unchanged units -/

theorem cursorLegal_of_sameTwister {s t : State} (hc : CursorLegal s) (h : SameTwister s t) : CursorLegal t := by
  obtain ⟨_, hidx, hv⟩ := h
  intro ht
  rw [hidx]
  exact hc (hv.symm.trans ht)

theorem fillCounts_of_sameHash {s t : State} (hf : FillCounts s) (h : SameHash s t) : FillCounts t := by
  obtain ⟨_, _, _, _, _, hfill, hlen, hopen⟩ := h
  intro ht
  rw [hfill, hlen]
  exact hf (hopen.symm.trans ht)

theorem gridNeedsTwister_of_same {s t : State} (hg : GridNeedsTwister s) (hgrid : SameGrid s t)
    (htw : SameTwister s t) : GridNeedsTwister t := by
  obtain ⟨_, hgv⟩ := hgrid
  obtain ⟨_, _, hmv⟩ := htw
  exact fun ht => hmv.trans (hg (hgv.symm.trans ht))

theorem errorRecordLegal_of_sameErr {s t : State} (hr : ErrorRecordLegal s) (h : SameErr s t) :
    ErrorRecordLegal t := by
  obtain ⟨herr, hcode, hop⟩ := h
  simpa only [ErrorRecordLegal, herr, hcode, hop] using hr

theorem openExcludesSeed_of_same {s t : State} (ho : OpenExcludesSeed s) (hopen : t.hopen = s.hopen)
    (hseed : SameSeed s t) : OpenExcludesSeed t := by
  obtain ⟨_, hsv⟩ := hseed
  exact fun ht => hsv.trans (ho (hopen.symm.trans ht))

/-! ## Reset, the ports and the error record -/

/-- Every reset clears the flags and the error record, so each item holds whatever the other elements hold (R201). -/
theorem inv_resetWith (c : ResetContents) (s : State) : Inv (resetWith c s) where
  cursor := fun h => Bool.noConfusion h
  fill := fun h => Bool.noConfusion h
  codes := fun h => Bool.noConfusion h
  grid := fun h => Bool.noConfusion h
  record := ⟨fun _ => ⟨rfl, rfl⟩, fun h => Bool.noConfusion h⟩
  seed := fun h => Bool.noConfusion h

theorem Inv.withEvents {s : State} (h : Inv s) (evs : List HostEvent) : Inv (s.withEvents evs) :=
  ⟨h.cursor, h.fill, h.codes, h.grid, h.record, h.seed⟩

theorem Inv.respond {s : State} (h : Inv s) (st : Status) (d : Word) : Inv (respond s st d) :=
  ⟨h.cursor, h.fill, h.codes, h.grid, h.record, h.seed⟩

/-- After an error the record holds an error code: that of the first error, or of this one (R32). -/
theorem errorRecordLegal_recordError {s : State} (h : ErrorRecordLegal s) (e : ErrStatus) (op : Byte) :
    ErrorRecordLegal (recordError s e op) := by
  obtain ⟨_, hset⟩ := h
  refine ⟨fun hf => Bool.noConfusion hf, fun _ => ?_⟩
  rw [recordError_errCode]
  split
  next herr => exact hset herr
  next => exact errStatus_code_range e

theorem Inv.raise {s : State} (h : Inv s) (e : ErrStatus) (op : Byte) : Inv (raise s e op) :=
  have hrecord : Inv (recordError s e op) :=
    ⟨h.cursor, h.fill, h.codes, h.grid, errorRecordLegal_recordError h.record e op, h.seed⟩
  hrecord.respond (.error e) 0#32

theorem Inv.raiseDecode {s : State} (h : Inv s) (e : DecodeError) : Inv (raiseDecode s e) := by
  cases e with
  | illegal op => exact h.raise .eIllegal op
  | operand op => exact h.raise .eOperand op

/-! ## The hash kernel -/

/-- `HINIT` starts with fill and length 0 and discards the seed. -/
theorem Inv.openMessage {s : State} (h : Inv s) : Inv (openMessage s) where
  cursor := h.cursor
  fill := fun _ => ⟨rfl, Nat.zero_le _⟩
  codes := h.codes
  grid := h.grid
  record := h.record
  seed := fun _ => rfl

/-- Fill and length advance together; 64 divides the modulus `2^64` of the length, so its wrap does no harm (R27). -/
theorem fillCounts_countByte_absorb {s : State} (h : FillCounts s) (b : Byte) :
    FillCounts (countByte (absorb s b)) := by
  intro ht
  obtain ⟨hcount, _⟩ := h ((absorb_only s b).hopen.symm.trans ht)
  have hfill : (countByte (absorb s b)).hfill.toNat = (s.hfill.toNat + 1) % 64 := by
    rw [countByte_hfill, absorb_hfill, BitVec.toNat_add]
    rfl
  have hlen : (countByte (absorb s b)).hlen.toNat = (s.hlen.toNat + 1) % 2 ^ 64 := by
    rw [countByte_hlen, (absorb_only s b).hlen, BitVec.toNat_add]
    rfl
  omega

theorem Inv.countByte_absorb {s : State} (h : Inv s) (b : Byte) : Inv (countByte (absorb s b)) :=
  have ho := absorb_only s b
  { cursor := cursorLegal_of_sameTwister h.cursor ho.twister
    fill := fillCounts_countByte_absorb h.fill b
    codes := codesFromAlphabet_of_sameGrid h.codes ho.grid
    grid := gridNeedsTwister_of_same h.grid ho.grid ho.twister
    record := errorRecordLegal_of_sameErr h.record ho.err
    seed := openExcludesSeed_of_same h.seed ho.hopen ho.seed }

/-- `HFIN` closes the message, so the items about an open one are void; its padding changes the block alone. -/
theorem Inv.takeSeed {s t : State} (h : Inv s) (ho : OnlyBlock s t) : Inv (takeSeed t) where
  cursor := cursorLegal_of_sameTwister h.cursor ho.twister
  fill := fun hopen => Bool.noConfusion hopen
  codes := codesFromAlphabet_of_sameGrid h.codes ho.grid
  grid := gridNeedsTwister_of_same h.grid ho.grid ho.twister
  record := errorRecordLegal_of_sameErr h.record ho.err
  seed := fun hopen => Bool.noConfusion hopen

/-! ## The twister -/

theorem Inv.seedTwister {s : State} (h : Inv s) (w : Word) : Inv (seedTwister s w) where
  cursor := fun _ => Nat.zero_le _
  fill := h.fill
  codes := h.codes
  grid := fun _ => rfl
  record := h.record
  seed := h.seed

theorem Inv.extractNext {s : State} (h : Inv s) : Inv (extractNext s) where
  cursor := fun _ => nextIdx_le s.idx
  fill := h.fill
  codes := h.codes
  grid := h.grid
  record := h.record
  seed := h.seed

/-! ## The grid builder -/

/-- The first `n` characters of the code table, in the order in which they are drawn (R141), are characters of the
code alphabet. -/
def DrawnChars (ca : CodeAlphabet) (n : Nat) (s : State) : Prop :=
  ∀ (k : Fin 35) (j : Fin 4), 4 * k.val + j.val < n → ∃ c : Fin 78, (s.ct[k])[j] = ca.bytes[c]

/-- The next draw writes the next character and no other. -/
theorem DrawnChars.draw {ca : CodeAlphabet} {s : State} {k : Fin 35} {j : Fin 4}
    (h : DrawnChars ca (4 * k.val + j.val) s) : DrawnChars ca (4 * k.val + j.val + 1) (drawChar ca s k j) := by
  intro k' j' hlt
  rw [drawChar_ct]
  by_cases hk : k' = k
  · subst hk
    by_cases hj : j' = j
    · subst hj
      rw [setCode_same]
      exact codeChar_mem ca _
    · rw [setCode_other_byte _ _ _ _ _ hj]
      exact h k' j' (by omega)
  · rw [setCode_other_entry _ _ _ _ _ hk]
    exact h k' j' (by omega)

/-- The 140 draws of a grid construction write every character of the code table. -/
theorem fillTable_drawnChars (ca : CodeAlphabet) (s : State) : DrawnChars ca 140 (fillTable ca s) :=
  fillTable_induction ca (DrawnChars ca) (fun _ _ _ h => h.draw) s (fun _ _ h => absurd h (Nat.not_lt_zero _))

theorem fillTable_cursor_le (ca : CodeAlphabet) {s : State} (h : s.idx.toNat ≤ 623) :
    (fillTable ca s).idx.toNat ≤ 623 :=
  fillTable_keeps ca (fun t => t.idx.toNat ≤ 623) (fun t _ _ _ => nextIdx_le t.idx) s h

theorem buildGrid_cursorLegal (ca : CodeAlphabet) (s : State) : CursorLegal (buildGrid ca s) := by
  intro _
  rw [buildGrid, State.withGridValid_idx]
  exact fillTable_cursor_le ca (Nat.zero_le _)

theorem buildGrid_codesFromAlphabet (s : State) : CodesFromAlphabet (buildGrid Config.codeAlphabet s) := by
  intro _ k j
  rw [buildGrid, State.withGridValid_ct]
  exact fillTable_drawnChars Config.codeAlphabet _ k j (by omega)

/-- A grid construction seeds the twister and writes the whole table, so the items about them hold whatever was there
before. -/
theorem Inv.buildGrid {s : State} (h : Inv s) : Inv (buildGrid Config.codeAlphabet s) :=
  have ⟨hhash, hseed, herr, hmt, _⟩ := buildGrid_frame Config.codeAlphabet s
  have ⟨_, _, _, _, _, _, _, hopen⟩ := hhash
  { cursor := buildGrid_cursorLegal Config.codeAlphabet s
    fill := fillCounts_of_sameHash h.fill hhash
    codes := buildGrid_codesFromAlphabet s
    grid := fun _ => hmt
    record := errorRecordLegal_of_sameErr h.record herr
    seed := openExcludesSeed_of_same h.seed hopen hseed }

/-! ## Commands and steps -/

theorem Inv.unitUpdate {i : Instr} {s u : State} (h : Inv s) (hu : UnitUpdate i s u) : Inv u := by
  cases hu with
  | rdcsr => exact h
  | hinit => exact h.openMessage
  | hbyte b => exact h.countByte_absorb b
  | hfin => exact h.takeSeed (finalPad_only s)
  | mtseed w => exact h.seedTwister w
  | mtnext => exact h.extractNext
  | gbuild => exact h.buildGrid
  | symat => exact h
  | codefor => exact h
  | xlate => exact h

theorem Inv.exec {i : Instr} {s t : State} (h : Inv s) (ht : exec i s = .next t) : Inv t := by
  obtain ⟨e, he⟩ | ⟨u, st, d, hu, _, he⟩ := exec_cases i s
  · obtain rfl := Host.Outcome.next.inj (he.symm.trans ht)
    exact h.raise e i.opcode
  · obtain rfl := Host.Outcome.next.inj (he.symm.trans ht)
    exact (h.unitUpdate hu).respond st d

theorem Inv.stepCommand {w : Cmd} {s t : State} (h : Inv s) (ht : stepCommand w s = .next t) : Inv t := by
  cases hd : decode w with
  | ok i => exact h.exec ((stepCommand_ok hd s).symm.trans ht)
  | error e =>
    obtain rfl := Host.Outcome.next.inj ((stepCommand_error hd s).symm.trans ht)
    exact h.raiseDecode e

theorem inv_applyReset (s : State) : Inv (applyReset s) := inv_resetWith _ s

theorem Inv.step {s t : State} (h : Inv s) (ht : step s = .next t) : Inv t := by
  match hev : s.events with
  | [] =>
    obtain rfl := Host.Outcome.next.inj ((step_idle hev).symm.trans ht)
    exact h
  | .command w :: rest => exact (h.withEvents rest).stepCommand ((step_command hev).symm.trans ht)
  | .reset :: rest =>
    obtain rfl := Host.Outcome.next.inj ((step_reset hev).symm.trans ht)
    exact inv_applyReset _
  | .abandoned w :: rest =>
    obtain rfl := Host.Outcome.next.inj ((step_abandoned hev).symm.trans ht)
    exact inv_applyReset _

/-- Settles O17: the reset clears every flag, and each step is a command, a decoder error, a reset or idle. -/
theorem stepKeepsInvariant : Obligations.StepKeepsInvariant := by
  unfold Obligations.StepKeepsInvariant
  exact ⟨inv_resetWith, fun _ _ h ht => h.step ht⟩

end Sys2Proof.Machine
end

/-! PROOFS. Command words of spec/30_encoding.md section 4: an opcode byte the table does not hold is refused by the
decoder, and the refusal records and answers the error and touches nothing else (O6). -/

namespace Sys2Proof.Machine

/-! ## Errors -/

/-- Raising an error meets the whole specification of one (R185), in every state. -/
theorem raise_raised (s : State) (e : ErrStatus) (op : Byte) : Raised s (raise s e op) e op :=
  ⟨raise_err s e op, raise_errCode s e op, raise_errOp s e op, respond_sameUnits (recordError s e op) _ _,
    respond_answered (recordError s e op) _ _⟩

/-! ## Undefined opcode bytes -/

theorem not_mem_definedOpcodes_iff (op : Byte) :
    op ∉ definedOpcodes ↔
      op ≠ 0x01#8 ∧ op ≠ 0x10#8 ∧ op ≠ 0x11#8 ∧ op ≠ 0x12#8 ∧ op ≠ 0x20#8 ∧ op ≠ 0x21#8 ∧ op ≠ 0x30#8 ∧
        op ≠ 0x31#8 ∧ op ≠ 0x32#8 ∧ op ≠ 0x40#8 := by
  simp [definedOpcodes]

/-- The decoder asks for each of the ten bytes in turn; a word of another byte falls through them all, and its operand
is never looked at (R78, R79). -/
theorem decode_of_undefined {w : Cmd} (h : opField w ∉ definedOpcodes) :
    decode w = .error (.illegal (opField w)) := by
  obtain ⟨h01, h10, h11, h12, h20, h21, h30, h31, h32, h40⟩ := (not_mem_definedOpcodes_iff (opField w)).mp h
  rw [decode, if_neg h01, if_neg h10, if_neg h11, if_neg h12, if_neg h20, if_neg h21, if_neg h30, if_neg h31,
    if_neg h32, if_neg h40]

theorem step_of_undefined {s : State} {w : Cmd} {rest : List HostEvent} (hev : s.events = .command w :: rest)
    (h : opField w ∉ definedOpcodes) : step s = .next (raise (s.withEvents rest) .eIllegal (opField w)) := by
  rw [step_command hev, stepCommand_error (decode_of_undefined h), raiseDecode]

/-- Of the 256 bytes the table holds ten. -/
theorem undefinedBytes_length :
    ((List.range 256).filter (fun n => BitVec.ofNat 8 n ∉ definedOpcodes)).length = 246 := by decide +kernel

theorem opField_zero_undefined : opField 0#40 ∉ definedOpcodes := by decide

/-- Settles O6: the decoder refuses the word by its opcode byte alone, and the step then raises the error. -/
theorem undefinedOpcodeIsIllegal : Obligations.UndefinedOpcodeIsIllegal := by
  unfold Obligations.UndefinedOpcodeIsIllegal
  refine ⟨fun s w rest hev h => ?_, undefinedBytes_length, opField_zero_undefined⟩
  exact ⟨_, step_of_undefined hev h, raise_raised (s.withEvents rest) .eIllegal (opField w)⟩

end Sys2Proof.Machine

/-! PROOFS. Seed derivation (spec/40_hash_seed_derivation.md): the seed is the first chaining value of the digest, the
digests of R110 (O27), what the hash kernel holds after absorbing any sequence of bytes, and from that the run `HINIT`,
the bytes, `HFIN` (O28). -/

namespace Sys2Proof.Machine

/-! ## The seed as a chaining value -/

/-- Bit `i` of a word is bit `i % 8` of its byte `i / 8` (R53). -/
theorem leWord_byteOf (w : Word) : leWord (byteOf w 0) (byteOf w 1) (byteOf w 2) (byteOf w 3) = w := by
  ext i hi
  simp only [leWord, byteOf, BitVec.getElem_or, BitVec.getElem_shiftLeft, BitVec.getElem_setWidth,
    BitVec.getLsbD_extractLsb']
  grind

theorem digestBytes_first_word (q : Md5Chain) :
    leWord ((digestBytes q).getD 0 0) ((digestBytes q).getD 1 0) ((digestBytes q).getD 2 0) ((digestBytes q).getD 3 0) =
      q.a := leWord_byteOf q.a

/-- The seed is `HA` after the last compression (R100, R108). -/
theorem deriveSeed_eq (m : List Byte) : deriveSeed m = (md5Digest m).a := digestBytes_first_word (md5Digest m)

/-! ## The passphrases of R110 -/

theorem md5Digest_empty : md5Digest [] = ⟨0xd98c1dd4#32, 0x04b2008f#32, 0x980980e9#32, 0x7e42f8ec#32⟩ := by
  decide +kernel

theorem md5Digest_a : md5Digest [0x61] = ⟨0xb975c10c#32, 0xa8b6f1c0#32, 0xe299c331#32, 0x61267769#32⟩ := by
  decide +kernel

theorem md5Digest_abc :
    md5Digest [0x61, 0x62, 0x63] = ⟨0x98500190#32, 0xb04fd23c#32, 0x7d3f96d6#32, 0x727fe128#32⟩ := by
  decide +kernel

theorem md5Digest_test :
    md5Digest [0x74, 0x65, 0x73, 0x74] = ⟨0xcd6b8f09#32, 0x73d32146#32, 0x834edeca#32, 0xf6b42726#32⟩ := by
  decide +kernel

theorem md5Digest_testCapitalized :
    md5Digest [0x54, 0x65, 0x73, 0x74] = ⟨0x1166bc0c#32, 0xd00b54f5#32, 0x8d389a80#32, 0x5b615ac9#32⟩ := by
  decide +kernel

/-- Settles O27: each digest is evaluated once; its bytes and its seed are read from the chaining values. -/
theorem knownDigestsAndSeeds : Obligations.KnownDigestsAndSeeds := by
  unfold Obligations.KnownDigestsAndSeeds
  simp only [deriveSeed_eq, md5Digest_empty, md5Digest_a, md5Digest_abc, md5Digest_test, md5Digest_testCapitalized]
  decide

/-! ## The blocks of a byte sequence -/

/-- The chaining values after the first `n` blocks of a byte sequence, from the values `q`. -/
def chainAfter (q : Md5Chain) (bs : List Byte) (n : Nat) : Md5Chain :=
  (List.range n).foldl (fun r b => md5Compress r (blockAt bs b)) q

theorem md5Digest_eq_chainAfter (m : List Byte) :
    md5Digest m = chainAfter md5Init (md5Padded m) ((md5Padded m).length / 64) := rfl

theorem chainAfter_zero (q : Md5Chain) (bs : List Byte) : chainAfter q bs 0 = q := rfl

theorem chainAfter_succ (q : Md5Chain) (bs : List Byte) (n : Nat) :
    chainAfter q bs (n + 1) = md5Compress (chainAfter q bs n) (blockAt bs n) := by
  simp only [chainAfter, List.range_succ, List.foldl_append, List.foldl_cons, List.foldl_nil]

theorem blockAt_getElem (bs : List Byte) (n i : Nat) (hi : i < 64) : (blockAt bs n)[i] = bs.getD (64 * n + i) 0#8 := by
  simp only [blockAt, Vector.getElem_mk, List.getElem_toArray, List.getElem_map, List.getElem_range]

/-- A block that is complete is not changed by what follows. -/
theorem blockAt_append {bs : List Byte} {n : Nat} (h : 64 * (n + 1) ≤ bs.length) (cs : List Byte) :
    blockAt (bs ++ cs) n = blockAt bs n := by
  ext i hi
  rw [blockAt_getElem, blockAt_getElem, List.getD_append _ _ _ _ (by omega)]

theorem chainAfter_append (q : Md5Chain) {bs : List Byte} {n : Nat} (h : 64 * n ≤ bs.length) (cs : List Byte) :
    chainAfter q (bs ++ cs) n = chainAfter q bs n := by
  induction n with
  | zero => rw [chainAfter_zero, chainAfter_zero]
  | succ n ih => rw [chainAfter_succ, chainAfter_succ, ih (by omega), blockAt_append h]

/-! ## What the hash kernel holds -/

/-- The kernel has absorbed the bytes `bs` since its chaining registers held `q` and its buffer was empty: the complete
blocks are compressed, the bytes after them stand in the buffer (R25, R26). The length counter is not spoken of. -/
structure Absorbed (q : Md5Chain) (bs : List Byte) (s : State) : Prop where
  fill : s.hfill.toNat = bs.length % 64
  buffer : ∀ (i : Nat) (hi : i < 64), i < bs.length % 64 → s.hbuf[i] = bs.getD (64 * (bs.length / 64) + i) 0#8
  chain : s.chain = chainAfter q bs (bs.length / 64)

section
variable {q : Md5Chain} {bs : List Byte} {s : State}

theorem Absorbed.withEvents (h : Absorbed q bs s) (evs : List HostEvent) : Absorbed q bs (s.withEvents evs) :=
  ⟨h.fill, h.buffer, h.chain⟩

theorem Absorbed.countByte (h : Absorbed q bs s) : Absorbed q bs (countByte s) := ⟨h.fill, h.buffer, h.chain⟩

theorem Absorbed.respond (h : Absorbed q bs s) (st : Status) (d : Word) : Absorbed q bs (respond s st d) :=
  ⟨h.fill, h.buffer, h.chain⟩

/-- The byte enters behind the buffered ones. -/
theorem Absorbed.absorb_hbuf_getElem (h : Absorbed q bs s) (x : Byte) (i : Nat) (hi : i < 64)
    (hle : i ≤ bs.length % 64) : (absorb s x).hbuf[i] = (bs ++ [x]).getD (64 * (bs.length / 64) + i) 0#8 := by
  simp only [absorb_hbuf, Vector.getElem_set, h.fill]
  split
  next heq =>
    have hlen : 64 * (bs.length / 64) + i = bs.length := by omega
    simp [hlen]
  next hne => rw [h.buffer i hi (by omega), List.getD_append _ _ _ _ (by omega)]

/-- The byte that completes a block has it compressed. -/
theorem Absorbed.absorb_chain_full (h : Absorbed q bs s) (x : Byte) (hfull : bs.length % 64 = 63) :
    (absorb s x).chain = chainAfter q (bs ++ [x]) (bs.length / 64 + 1) := by
  have hfill : s.hfill = 63#6 := BitVec.eq_of_toNat_eq (h.fill.trans hfull)
  have hbuf : (absorb s x).hbuf = blockAt (bs ++ [x]) (bs.length / 64) := by
    ext i hi
    rw [h.absorb_hbuf_getElem x i hi (by omega), blockAt_getElem]
  rw [absorb_chain, if_pos hfill, hbuf, h.chain, chainAfter_succ, chainAfter_append q (by omega)]

theorem Absorbed.absorb_chain_short (h : Absorbed q bs s) (x : Byte) (hshort : bs.length % 64 ≠ 63) :
    (absorb s x).chain = chainAfter q (bs ++ [x]) (bs.length / 64) := by
  have hfill : s.hfill ≠ 63#6 := fun he => hshort (h.fill.symm.trans (congrArg BitVec.toNat he))
  rw [absorb_chain, if_neg hfill, h.chain, chainAfter_append q (by omega)]

/-- `Absorb` (R107) appends one byte to what has been absorbed. -/
theorem Absorbed.absorb (h : Absorbed q bs s) (x : Byte) : Absorbed q (bs ++ [x]) (absorb s x) := by
  have hlen : (bs ++ [x]).length = bs.length + 1 := List.length_append
  have hfill : (Machine.absorb s x).hfill.toNat = (bs.length + 1) % 64 := by
    rw [absorb_hfill, BitVec.toNat_add, h.fill]
    exact Nat.mod_add_mod _ _ _
  by_cases hfull : bs.length % 64 = 63
  · have hmod : (bs.length + 1) % 64 = 0 := by omega
    have hdiv : (bs.length + 1) / 64 = bs.length / 64 + 1 := by omega
    refine ⟨by rw [hlen, hfill], fun i _ hlt => ?_, ?_⟩
    · rw [hlen, hmod] at hlt
      exact absurd hlt (Nat.not_lt_zero i)
    · rw [hlen, hdiv]
      exact h.absorb_chain_full x hfull
  · have hdiv : (bs.length + 1) / 64 = bs.length / 64 := by omega
    refine ⟨by rw [hlen, hfill], fun i hi hlt => ?_, ?_⟩
    · rw [hlen] at hlt ⊢
      rw [hdiv]
      exact h.absorb_hbuf_getElem x i hi (by omega)
    · rw [hlen, hdiv]
      exact h.absorb_chain_short x hfull

/-! ## Padding -/

/-- The padding loop absorbs one zero byte for each place up to 56, modulo 64 (R108). -/
theorem Absorbed.padZeros {n : Nat} (h : Absorbed q bs s) (hn : (56#6 - s.hfill).toNat ≤ n) :
    Absorbed q (bs ++ List.replicate (56#6 - s.hfill).toNat 0x00#8) (padZeros n s) := by
  induction n generalizing bs s with
  | zero =>
    rw [Nat.le_zero.mp hn, List.replicate_zero, List.append_nil]
    exact h
  | succ n ih =>
    by_cases hf : s.hfill = 56#6
    · rw [padZeros_done _ hf, hf]
      simpa using h
    · have hcount : (56#6 - s.hfill).toNat = (56#6 - (Machine.absorb s 0x00#8).hfill).toNat + 1 := by
        rw [absorb_hfill]
        bv_omega
      rw [padZeros_step _ hf, hcount, List.replicate_succ, List.append_cons]
      exact ih (h.absorb 0x00#8) (by omega)

end

/-- What `HFIN` absorbs behind a message: `0x80`, zero bytes to 56, the bit length least significant byte first
(R108). -/
def finalBytes (fill : Nat) (bits : BitVec 64) : List Byte :=
  0x80#8 :: (List.replicate ((119 - fill) % 64) 0x00#8 ++
    (List.range 8).map (fun j => bits.extractLsb' (8 * j) 8))

theorem md5Padded_eq (m : List Byte) :
    md5Padded m = m ++ finalBytes (m.length % 64) (BitVec.ofNat 64 (8 * m.length)) := rfl

/-- The padded message is a whole number of blocks. -/
theorem md5Padded_length_mod (m : List Byte) : (md5Padded m).length % 64 = 0 := by
  simp only [md5Padded_eq, finalBytes, List.length_append, List.length_cons, List.length_replicate, List.length_map,
    List.length_range]
  omega

theorem zeroCount_after_absorb (s : State) (x : Byte) :
    (56#6 - (absorb s x).hfill).toNat = (119 - s.hfill.toNat) % 64 := by
  rw [absorb_hfill]
  bv_omega

theorem Absorbed.finalPad {q : Md5Chain} {bs : List Byte} {s : State} (h : Absorbed q bs s) :
    Absorbed q (bs ++ finalBytes s.hfill.toNat (s.hlen * 8#64)) (finalPad s) := by
  have hzeros := (h.absorb 0x80#8).padZeros (n := 63) (Nat.le_of_lt_succ (BitVec.isLt _))
  rw [zeroCount_after_absorb] at hzeros
  have hlist : bs ++ finalBytes s.hfill.toNat (s.hlen * 8#64) =
      bs ++ [0x80#8] ++ List.replicate ((119 - s.hfill.toNat) % 64) 0x00#8 ++
        (List.range 8).map (fun j => (s.hlen * 8#64).extractLsb' (8 * j) 8) := by
    simp [finalBytes]
  rw [hlist, Machine.finalPad]
  refine loop_induction (n := 8) _ (fun k t => Absorbed q (bs ++ [0x80#8] ++
    List.replicate ((119 - s.hfill.toNat) % 64) 0x00#8 ++
      (List.range k).map (fun j => (s.hlen * 8#64).extractLsb' (8 * j) 8)) t) _ ?_ (fun j t ht => ?_)
  · simpa using hzeros
  · rw [List.range_succ, List.map_append, ← List.append_assoc]
    exact ht.absorb _

/-- After `HFIN`'s padding of a whole message the chaining registers hold its digest (R108). -/
theorem Absorbed.finalPad_digest {m : List Byte} {s : State} (h : Absorbed md5Init m s)
    (hlen : s.hlen = BitVec.ofNat 64 m.length) : (Machine.finalPad s).chain = md5Digest m := by
  have hbits : s.hlen * 8#64 = BitVec.ofNat 64 (8 * m.length) := by
    rw [hlen, ← BitVec.ofNat_mul, Nat.mul_comm]
  have hpad := h.finalPad
  rw [h.fill, hbits, ← md5Padded_eq] at hpad
  rw [hpad.chain, md5Digest_eq_chainAfter]

/-! ## A message under way -/

/-- Since `s` the host has opened a message and sent the bytes `m`, each answered with `OK`, and has reached `t`. -/
structure MessageOpen (s : State) (m : List Byte) (t : State) : Prop where
  absorbed : Absorbed md5Init m t
  hlen : t.hlen = BitVec.ofNat 64 m.length
  hopen : t.hopen = true
  responses : t.responses = s.responses ++ List.replicate (m.length + 1) ⟨.ok, 0#32⟩
  twister : SameTwister s t
  grid : SameGrid s t
  err : SameErr s t

theorem MessageOpen.withEvents {s t : State} {m : List Byte} (h : MessageOpen s m t) (evs : List HostEvent) :
    MessageOpen s m (t.withEvents evs) :=
  ⟨h.absorbed.withEvents evs, h.hlen, h.hopen, h.responses, h.twister, h.grid, h.err⟩

/-- `HINIT` opens the empty message in every state: nothing of the old buffer is left to be read (R102). -/
theorem messageOpen_hinit (s : State) (evs : List HostEvent) :
    MessageOpen s [] (respond (openMessage (s.withEvents evs)) .ok 0#32) where
  absorbed := ⟨rfl, fun _ _ h => absurd h (Nat.not_lt_zero _), rfl⟩
  hlen := rfl
  hopen := rfl
  responses := rfl
  twister := SameTwister.refl s
  grid := SameGrid.refl s
  err := SameErr.refl s

/-- `HBYTE` makes the message one byte longer (R106). -/
theorem MessageOpen.hbyte {s t : State} {m : List Byte} (h : MessageOpen s m t) (b : Byte) :
    MessageOpen s (m ++ [b]) (respond (countByte (absorb t b)) .ok 0#32) := by
  have ho := absorb_only t b
  have hlength : (m ++ [b]).length = m.length + 1 := List.length_append
  refine ⟨((h.absorbed.absorb b).countByte).respond _ _, ?_, ho.hopen.trans h.hopen, ?_, h.twister.trans ho.twister,
    h.grid.trans ho.grid, h.err.trans ho.err⟩
  · rw [respond_hlen, countByte_hlen, ho.hlen, h.hlen, hlength, BitVec.ofNat_add]
  · rw [respond_responses, countByte_responses, ho.responses, h.responses, hlength,
      List.replicate_succ' (n := m.length + 1), List.append_assoc]

/-- The word `HFIN` takes as the seed (R108). -/
theorem MessageOpen.finalPad_ha {s t : State} {m : List Byte} (h : MessageOpen s m t) :
    (finalPad t).ha = deriveSeed m := by
  rw [State.ha_eq_chain, h.absorbed.finalPad_digest h.hlen, deriveSeed_eq]

/-! ## Runs of presented commands -/

/-- The first of the presented commands is executed, the others stay presented. -/
theorem run_present_cons {s t : State} {i : Instr} {is : List Instr} {rest : List HostEvent} (n : Nat)
    (hev : s.events = present (i :: is) ++ rest) (hd : decode (encode i) = .ok i)
    (hx : exec i (s.withEvents (present is ++ rest)) = .next t) : run (n + 1) s = run n t := by
  refine run_succ_of_step n ?_
  rw [step_command hev, stepCommand_ok hd]
  exact hx

theorem decode_encode_hbyte (b : Byte) : decode (encode (.hbyte b)) = .ok (.hbyte b) := by
  have hhigh : (Instr.hbyte b).operandWord.extractLsb' 8 24 = 0#24 := extractLsb'_append_high 0#24 b
  have hlow : (Instr.hbyte b).operandWord.extractLsb' 0 8 = b := extractLsb'_append_low 0#24 b
  simp [decode, Instr.opcode, decodeB, hhigh, hlow]

/-- The bytes of a message, one `HBYTE` each (R84). -/
theorem MessageOpen.run_hbytes {s t : State} {m : List Byte} (h : MessageOpen s m t) (bs : List Byte)
    (rest : List HostEvent) (hev : t.events = present (bs.map .hbyte) ++ rest) :
    ∃ u, run bs.length t = .next u ∧ MessageOpen s (m ++ bs) u ∧ u.events = rest := by
  induction bs generalizing m t with
  | nil => exact ⟨t, rfl, by simpa using h, hev⟩
  | cons b bs ih =>
    have h' := h.withEvents (present (bs.map .hbyte) ++ rest)
    have hstep := run_present_cons bs.length hev (decode_encode_hbyte b) (exec_hbyte_open h'.hopen b)
    obtain ⟨u, hrun, hu, hrest⟩ := ih (h'.hbyte b) (absorb_only _ b).events
    exact ⟨u, hstep.trans hrun, by rwa [List.append_cons], hrest⟩

/-- `HFIN` takes the seed of the message and closes it; the twister, the grid and the error record are as before the
message (R108, R109). -/
theorem MessageOpen.exec_hfin {s t : State} {m : List Byte} (h : MessageOpen s m t) :
    ∃ u, exec .hfin t = .next u ∧ u.events = t.events ∧
      u.responses = s.responses ++ (List.replicate (m.length + 1) ⟨.ok, 0#32⟩ ++ [⟨.ok, deriveSeed m⟩]) ∧
      u.seed = deriveSeed m ∧ u.seedValid = true ∧ u.hopen = false ∧ SameTwister s u ∧ SameGrid s u ∧ SameErr s u := by
  have hx := exec_hfin_open h.hopen
  have ho := finalPad_only t
  have hseed := h.finalPad_ha
  -- From here on only what is known of the padded state counts; comparing states must not run the compression.
  generalize finalPad t = p at hx ho hseed
  refine ⟨_, hx, ho.events, ?_, hseed, rfl, rfl, h.twister.trans ho.twister, h.grid.trans ho.grid,
    h.err.trans ho.err⟩
  rw [respond_responses, takeSeed_responses, ho.responses, h.responses, hseed, List.append_assoc]

theorem present_append (is js : List Instr) (rest : List HostEvent) :
    present (is ++ js) ++ rest = present is ++ (present js ++ rest) := by
  simp [present]

/-- Settles O28: `HINIT` opens a message whatever the state was, each `HBYTE` appends to it, and `HFIN` takes the seed
of what has been absorbed. -/
theorem deriveRunComputesSeed : Obligations.DeriveRunComputesSeed := by
  unfold Obligations.DeriveRunComputesSeed
  intro s m rest _
  have hinit := run_present_cons (s := s.withEvents (present (deriveCmds m) ++ rest)) (m.length + 1) rfl (by decide)
    (exec_hinit _)
  obtain ⟨u, hbytes, hu, hev⟩ :=
    (messageOpen_hinit s _).run_hbytes m (present [.hfin] ++ rest) (present_append (m.map .hbyte) [.hfin] rest)
  obtain ⟨t, hx, htev, hanswer⟩ := (hu.withEvents rest).exec_hfin
  have hfin := run_present_cons (is := []) 0 hev (by decide) hx
  refine ⟨t, ?_, htev, hanswer⟩
  calc run (m.length + 2) (s.withEvents (present (deriveCmds m) ++ rest))
    _ = run (m.length + 1) _ := hinit
    _ = run 1 u := run_add m.length 1 hbytes
    _ = .next t := hfin

end Sys2Proof.Machine

/-! PROOFS. The twister (spec/41_mt19937_generator.md): the seeding loop and its recurrence (O29), `Mix` in bits (O30),
the stages of tempering (O32), and the position of the twister in the output stream of its seed (O36). -/

namespace Sys2Proof.Machine

/-! ## Seeding -/

/-- The recurrence of R121 in natural numbers. -/
theorem seedNext_toNat (prev : Word) (i : Nat) :
    (seedNext prev i).toNat = (1812433253 * (prev ^^^ (prev >>> 30)).toNat + i) % 2 ^ 32 := by
  simp only [seedNext, fMul, BitVec.toNat_add, BitVec.toNat_mul, BitVec.toNat_ofNat]
  exact (Nat.add_mod _ _ _).symm.trans (by simp)

/-- The words 0 to `k` of the array are those of the seeded array. -/
def SeededUpTo (w : Word) (k : Nat) (mt : Vector Word 624) : Prop :=
  ∀ (j : Nat) (hj : j < 624), j ≤ k → mt[j] = (seedArray w)[j]

theorem seededUpTo_set_zero (w : Word) (mt : Vector Word 624) : SeededUpTo w 0 (mt.set 0 w) := by
  intro j _ hle
  obtain rfl := Nat.le_zero.mp hle
  rw [Vector.getElem_set_self, seedArray_zero]

/-- One turn of the loop writes the next word from the word before it. -/
theorem SeededUpTo.set_succ {w : Word} {i : Nat} {mt : Vector Word 624} (hi : i + 1 < 624) (h : SeededUpTo w i mt) :
    SeededUpTo w (i + 1) (mt.set (i + 1) (seedNext mt[i] (i + 1))) := by
  intro j hj hle
  obtain rfl | hlt := Nat.eq_or_lt_of_le hle
  · rw [Vector.getElem_set_self, h i (by omega) (Nat.le_refl i), seedArray_succ w i hi]
  · rw [Vector.getElem_set_ne _ _ (by omega), h j hj (by omega)]

/-- The loop of R121 overwrites whatever array it starts from. -/
theorem seedInPlace_eq_seedArray (w : Word) (mt : Vector Word 624) : seedInPlace w mt = seedArray w := by
  have hall : SeededUpTo w 623 (seedInPlace w mt) :=
    loop_induction _ (SeededUpTo w) (mt.set 0 w) (seededUpTo_set_zero w mt) (fun i _ h => h.set_succ (by omega))
  ext j hj
  rw [hall j hj (by omega)]

/-- Settles O29: the loop carries `SeededUpTo`; the recurrence is the model's, read in natural numbers. -/
theorem seedingLoopGivesSeedArray : Obligations.SeedingLoopGivesSeedArray := by
  unfold Obligations.SeedingLoopGivesSeedArray
  refine ⟨seedInPlace_eq_seedArray, fun s => ⟨seedArray_zero s, fun i => ?_⟩, by decide +kernel⟩
  rw [seedArray_succ s i.val (by omega), seedNext_toNat]

/-! ## Mix -/

/-- The two masks of R8 are the top bit and all the bits below it. -/
theorem masks_eq_append : upperMask = BitVec.allOnes 1 ++ 0#31 ∧ lowerMask = 0#1 ++ BitVec.allOnes 31 := by decide

/-- The word `Mix` shifts (R123): the masks take the top bit of `u` and the low 31 bits of `v`. -/
theorem masked_eq_append (u v : Word) :
    (u &&& upperMask) ||| (v &&& lowerMask) = u.extractLsb' 31 1 ++ v.extractLsb' 0 31 := by
  obtain ⟨hupper, hlower⟩ := masks_eq_append
  calc (u &&& upperMask) ||| (v &&& lowerMask)
    _ = ((u.extractLsb' 31 1 ++ u.extractLsb' 0 31) &&& upperMask) |||
        ((v.extractLsb' 31 1 ++ v.extractLsb' 0 31) &&& lowerMask) := by
      rw [append_extractLsb' (m := 1) (n := 31) u, append_extractLsb' (m := 1) (n := 31) v]
    _ = u.extractLsb' 31 1 ++ v.extractLsb' 0 31 := by
      rw [hupper, hlower, BitVec.and_append, BitVec.and_append, BitVec.or_append, BitVec.and_allOnes,
        BitVec.and_allOnes, BitVec.and_zero, BitVec.and_zero, BitVec.or_zero, BitVec.zero_or]

/-- The shift drops bit 0 of `v` and leaves bit 31 zero. -/
theorem append_ushiftRight_one (u v : Word) :
    (u.extractLsb' 31 1 ++ v.extractLsb' 0 31 : Word) >>> 1 = 0#1 ++ u.extractLsb' 31 1 ++ v.extractLsb' 1 30 := by
  ext i hi
  simp only [BitVec.getElem_ushiftRight, BitVec.getElem_append, BitVec.getLsbD_append, BitVec.getLsbD_extractLsb',
    BitVec.getElem_extractLsb']
  grind

/-- "Odd" is said of the unshifted value, whose bit 0 is that of `v` (R123). -/
theorem append_getLsbD_zero (u v : Word) :
    (u.extractLsb' 31 1 ++ v.extractLsb' 0 31 : Word).getLsbD 0 = v.getLsbD 0 := by
  rw [BitVec.getLsbD_append]
  simp

/-- Settles O30: the masked word is one bit of `u` before 31 bits of `v`, and each branch shifts it. -/
theorem mixFormula : Obligations.MixFormula := by
  unfold Obligations.MixFormula
  intro u v
  simp only [mix, masked_eq_append, append_getLsbD_zero, append_ushiftRight_one, matrixA]
  split
  · rfl
  · exact (BitVec.xor_zero ..).symm

/-! ## Tempering -/

/-- Bits that a left shift pushes past bit 31 are bits that no 32-bit mask keeps (R126). -/
theorem setWidth_shiftLeft_and_mask (y m : Word) (k : Nat) :
    ((y.setWidth 64 <<< k) &&& m.setWidth 64).setWidth 32 = (y <<< k) &&& m := by
  rw [BitVec.setWidth_and, BitVec.setWidth_shiftLeft_of_le (by decide), BitVec.setWidth_setWidth_of_le _ (by decide),
    BitVec.setWidth_setWidth_of_le _ (by decide), BitVec.setWidth_eq, BitVec.setWidth_eq]

/-- Settles O32: the stages are the model's own, the wider shifts agree under any mask, the rest are worked values. -/
theorem temperStagesAndValues : Obligations.TemperStagesAndValues := by
  unfold Obligations.TemperStagesAndValues
  refine ⟨?_, fun y => ⟨?_, ?_⟩, by decide⟩
  · rintro y _ _ _ rfl rfl rfl
    rfl
  · exact setWidth_shiftLeft_and_mask y temperB 7
  · exact setWidth_shiftLeft_and_mask y temperC 15

/-! ## The position in the output stream -/

section
variable {w : Word} {n : Nat} {s : State}

theorem StreamAt.mtValid : StreamAt w n s → s.mtValid = true := fun ⟨hvalid, _, _⟩ => hvalid

theorem StreamAt.idx_toNat : StreamAt w n s → s.idx.toNat = n % 624 := fun ⟨_, hidx, _⟩ => hidx

theorem StreamAt.idx_lt (h : StreamAt w n s) : s.idx.toNat < 624 := by
  rw [h.idx_toNat]
  exact Nat.mod_lt n (by decide)

theorem StreamAt.mt_of_zero : StreamAt w 0 s → s.mt = seedArray w := fun ⟨_, _, hmt⟩ => hmt

theorem StreamAt.mt_of_succ : StreamAt w (n + 1) s → s.mt = batch w (n / 624) := fun ⟨_, _, hmt⟩ => hmt

theorem streamAt_seedTwister (s : State) (w : Word) : StreamAt w 0 (seedTwister s w) := ⟨rfl, rfl, rfl⟩

/-- The position is a matter of the twister alone. -/
theorem StreamAt.of_sameTwister {t : State} (h : StreamAt w n s) (ht : SameTwister s t) : StreamAt w n t := by
  obtain ⟨hmt, hidx, hvalid⟩ := ht
  simpa only [StreamAt, hmt, hidx, hvalid] using h

theorem StreamAt.idx_eq_zero_iff (h : StreamAt w n s) : s.idx = 0#10 ↔ n % 624 = 0 := by
  rw [← h.idx_toNat]
  exact BitVec.toNat_inj.symm

/-- The twist that enters a batch makes the next array of the sequence `A_0, A_1, …` (R128). -/
theorem StreamAt.twist_eq_batch (h : StreamAt w n s) (hn : n % 624 = 0) : twist s.mt = batch w (n / 624) := by
  cases n with
  | zero => rw [h.mt_of_zero, Nat.zero_div, batch]
  | succ n =>
    have hq : (n + 1) / 624 = n / 624 + 1 := by omega
    rw [h.mt_of_succ, hq, batch]

/-- Inside a batch the array is the one the batch was entered with. -/
theorem StreamAt.mt_eq_batch (h : StreamAt w n s) (hn : n % 624 ≠ 0) : s.mt = batch w (n / 624) := by
  cases n with
  | zero => exact absurd rfl hn
  | succ n =>
    have hq : (n + 1) / 624 = n / 624 := by omega
    rw [h.mt_of_succ, hq]

/-- Extraction `n` reads `A_q` with `q = n div 624` (R128). -/
theorem StreamAt.extractArray_eq_batch (h : StreamAt w n s) : extractArray s = batch w (n / 624) := by
  by_cases hn : n % 624 = 0
  · rw [extractArray_of_zero (h.idx_eq_zero_iff.mpr hn), h.twist_eq_batch hn]
  · rw [extractArray_of_ne (hn ∘ h.idx_eq_zero_iff.mp), h.mt_eq_batch hn]

theorem StreamAt.extractWord_eq (h : StreamAt w n s) : extractWord s = streamWord w n := by
  rw [extractWord, readMt_of_lt _ _ h.idx_lt, streamWord]
  simp only [h.extractArray_eq_batch, h.idx_toNat]

/-- An extraction advances the position by one. -/
theorem StreamAt.extractNext (h : StreamAt w n s) : StreamAt w (n + 1) (extractNext s) := by
  refine ⟨h.mtValid, ?_, h.extractArray_eq_batch⟩
  rw [extractNext_idx, nextIdx_toNat, h.idx_toNat, Nat.mod_add_mod]

end

/-! ## What moves the position -/

theorem countByte_sameTwister (s : State) : SameTwister s (countByte s) := ⟨rfl, rfl, rfl⟩

theorem takeSeed_sameTwister (s : State) : SameTwister s (takeSeed s) := ⟨rfl, rfl, rfl⟩

/-- An update by a command that R44 does not give the twister leaves it alone. -/
theorem UnitUpdate.sameTwister {i : Instr} {s u : State} (h : UnitUpdate i s u) (hw : writesTwister i = false) :
    SameTwister s u := by
  cases h with
  | rdcsr => exact SameTwister.refl s
  | hinit => exact ⟨rfl, rfl, rfl⟩
  | hbyte b => exact (absorb_only s b).twister.trans (countByte_sameTwister _)
  | hfin => exact (finalPad_only s).twister.trans (takeSeed_sameTwister _)
  | mtseed => exact Bool.noConfusion hw
  | mtnext => exact Bool.noConfusion hw
  | gbuild => exact Bool.noConfusion hw
  | symat => exact SameTwister.refl s
  | codefor => exact SameTwister.refl s
  | xlate => exact SameTwister.refl s

/-- Such a command leaves the twister alone whether it answers a result or an error. -/
theorem exec_sameTwister {i : Instr} {s t : State} (hw : writesTwister i = false) (ht : exec i s = .next t) :
    SameTwister s t := by
  obtain ⟨e, he⟩ | ⟨u, st, d, hu, _, he⟩ := exec_cases i s
  · obtain rfl := Host.Outcome.next.inj (he.symm.trans ht)
    obtain ⟨_, _, _, ⟨htwister, _⟩, _⟩ := raise_raised s e i.opcode
    exact htwister
  · obtain rfl := Host.Outcome.next.inj (he.symm.trans ht)
    obtain ⟨hrespond, _⟩ := respond_sameUnits u st d
    exact (hu.sameTwister hw).trans hrespond

/-- Settles O36: seeding starts the stream, an extraction advances in it, and the other commands keep the twister. -/
theorem twisterFollowsStream : Obligations.TwisterFollowsStream := by
  unfold Obligations.TwisterFollowsStream
  refine ⟨fun s w => ?_, fun s w n h => ?_, fun s t w n i h hw ht => h.of_sameTwister (exec_sameTwister hw ht)⟩
  · obtain ⟨hrespond, _⟩ := respond_sameUnits (seedTwister s w) .ok 0#32
    exact ⟨_, exec_mtseed w s, (streamAt_seedTwister s w).of_sameTwister hrespond⟩
  · obtain ⟨hrespond, _⟩ := respond_sameUnits (extractNext s) .ok (extractWord s)
    refine ⟨_, exec_mtnext_seeded h.mtValid, h.extractNext.of_sameTwister hrespond, ?_⟩
    rw [← h.extractWord_eq]
    exact respond_answered_of rfl rfl rfl .ok _

end Sys2Proof.Machine

/-! PROOFS. The grid builder (spec/42_grid_builder.md): the 140 draws of a grid construction follow the output stream of
the seed, which gives the end state of `GBUILD` (O38); the symbol ROM and `SymIndex` as inverses, and the shape of the
grid (O42). -/

namespace Sys2Proof.Machine

/-! ## The words of the first batch -/

/-- The first 624 words of a stream are the once-twisted array of its seed, tempered (R128). -/
theorem streamWord_of_lt (w : Word) {n : Nat} (hn : n < 624) :
    streamWord w n = temper (twist (seedArray w))[n] := by
  have hdiv : n / 624 = 0 := Nat.div_eq_of_lt hn
  have hmod : n % 624 = n := Nat.mod_eq_of_lt hn
  simp only [streamWord, hdiv, hmod, batch]

/-! ## The draws -/

/-- What a draw leaves in the code table: the drawn character at its own place, every other place as it was. -/
theorem drawChar_ct_getElem (ca : CodeAlphabet) (s : State) (k k' : Fin 35) (j j' : Fin 4) :
    ((drawChar ca s k j).ct[k'])[j'] =
      if k' = k ∧ j' = j then codeChar ca (extractWord s) else (s.ct[k'])[j'] := by
  rw [drawChar_ct]
  split
  next h =>
    obtain ⟨rfl, rfl⟩ := h
    exact setCode_same ..
  next h =>
    by_cases hk : k' = k
    · subst hk
      exact setCode_other_byte _ _ _ _ _ (fun hj => h ⟨rfl, hj⟩)
    · rw [setCode_other_entry _ _ _ _ _ hk]

/-- `n` draws into a grid construction with seed `w`: the twister stands at position `n` of the stream of `w`, and draw
`4 * k + j` has put the character of that word of the stream into byte `j` of entry `k` (R141, R142). -/
structure DrawnFrom (ca : CodeAlphabet) (w : Word) (n : Nat) (s : State) : Prop where
  stream : StreamAt w n s
  chars : ∀ (k : Fin 35) (j : Fin 4), 4 * k.val + j.val < n →
    (s.ct[k])[j] = codeChar ca (streamWord w (4 * k.val + j.val))

theorem drawnFrom_seedTwister (ca : CodeAlphabet) (s : State) (w : Word) : DrawnFrom ca w 0 (seedTwister s w) :=
  ⟨streamAt_seedTwister s w, fun _ _ h => absurd h (Nat.not_lt_zero _)⟩

/-- The next draw takes the next word of the stream to the next place of the table. -/
theorem DrawnFrom.draw {ca : CodeAlphabet} {w : Word} {s : State} {k : Fin 35} {j : Fin 4}
    (h : DrawnFrom ca w (4 * k.val + j.val) s) : DrawnFrom ca w (4 * k.val + j.val + 1) (drawChar ca s k j) := by
  refine ⟨h.stream.extractNext.of_sameTwister ⟨rfl, rfl, rfl⟩, fun k' j' hlt => ?_⟩
  rw [drawChar_ct_getElem]
  split
  next hplace =>
    obtain ⟨rfl, rfl⟩ := hplace
    rw [h.stream.extractWord_eq]
  next hplace =>
    have hne : 4 * k'.val + j'.val ≠ 4 * k.val + j.val := fun he =>
      hplace ⟨Fin.ext (by omega), Fin.ext (by omega)⟩
    exact h.chars k' j' (by omega)

/-- A grid construction makes its 140 draws from the stream of `SEED`, from its first word on (R142). -/
theorem buildGrid_drawnFrom (ca : CodeAlphabet) (s : State) : DrawnFrom ca s.seed 140 (buildGrid ca s) := by
  have h : DrawnFrom ca s.seed 140 (fillTable ca (seedTwister (s.withGridValid false) s.seed)) :=
    fillTable_induction ca (DrawnFrom ca s.seed) (fun _ _ _ ht => ht.draw) _ (drawnFrom_seedTwister ca _ s.seed)
  rw [buildGrid]
  generalize fillTable ca (seedTwister (s.withGridValid false) s.seed) = t at h ⊢
  exact ⟨h.stream.of_sameTwister ⟨rfl, rfl, rfl⟩, h.chars⟩

/-! ## The end state of a grid construction -/

section
variable {ca : CodeAlphabet} {w : Word} {s : State}

/-- The 140 draws end inside the first batch, so the array has been twisted once. -/
theorem DrawnFrom.mt_eq (h : DrawnFrom ca w 140 s) : s.mt = twist (seedArray w) := by
  rw [h.stream.mt_of_succ, Nat.div_eq_of_lt (by decide), batch]

theorem DrawnFrom.idx_eq (h : DrawnFrom ca w 140 s) : s.idx = 140#10 := BitVec.eq_of_toNat_eq h.stream.idx_toNat

/-- Each code character from its own word of the once-twisted array (R143, R144). -/
theorem DrawnFrom.ct_eq (h : DrawnFrom ca w 140 s) (k : Fin 35) (j : Fin 4) {d : Fin 624} {c : Fin 78}
    (hd : d.val = 4 * k.val + j.val) (hc : c.val = (temper (twist (seedArray w))[d]).toNat % 78) :
    (s.ct[k])[j] = ca.bytes[c] := by
  have hindex : codeIndex (temper (twist (seedArray w))[d]) = c := Fin.ext ((codeIndex_val _).trans hc.symm)
  rw [h.chars k j (by omega), ← hd, streamWord_of_lt w d.isLt, codeChar]
  exact congrArg (fun i => ca.bytes[i]) hindex

/-- The extraction after the draws returns word 140 of the array (R144). -/
theorem DrawnFrom.exec_mtnext (h : DrawnFrom ca w 140 s) :
    ∃ u, exec .mtnext s = .next u ∧ Answered s u [⟨.ok, temper (twist (seedArray w))[140]⟩] := by
  refine ⟨_, exec_mtnext_seeded h.stream.mtValid, ?_⟩
  rw [h.stream.extractWord_eq, streamWord_of_lt w (by decide)]
  exact respond_answered_of rfl rfl rfl .ok _

/-- The response of `GBUILD` touches neither the twister nor the table. -/
theorem DrawnFrom.respond {n : Nat} (h : DrawnFrom ca w n s) (st : Status) (d : Word) :
    DrawnFrom ca w n (respond s st d) := ⟨h.stream.of_sameTwister (SameTwister.refl s), h.chars⟩

end

/-- Settles O38: the draws follow the stream of the seed, and 140 of them stay inside its first batch. -/
theorem gbuildClosedForm : Obligations.GbuildClosedForm := by
  unfold Obligations.GbuildClosedForm
  intro s hseed
  have hx := exec_gbuild_seeded hseed
  have hdrawn := buildGrid_drawnFrom Config.codeAlphabet s
  obtain ⟨hhash, hsame, herr, hmt, hgrid, hresponses, hevents, hresets⟩ := buildGrid_frame Config.codeAlphabet s
  -- Only what is known of the built state counts from here; comparing states must not run the 140 draws.
  generalize buildGrid Config.codeAlphabet s = t at hx hdrawn hhash hsame herr hmt hgrid hresponses hevents hresets
  have hend := hdrawn.respond .ok 0#32
  exact ⟨_, hx, hend.mt_eq, hend.idx_eq, hmt, hgrid, fun k j _ hd _ hc => hend.ct_eq k j hd hc, hhash, hsame, herr,
    respond_answered_of hresponses hevents hresets .ok 0#32, hend.exec_mtnext⟩

/-! ## The symbol ROM and its inverse -/

/-- The ROM holds the letters from place 0 and the digits `1` to `9` from place 26 (R33). -/
theorem symRom_toNat (k : Fin 35) :
    (symRom[k]).toNat = if k.val < 26 then 0x41 + k.val else 0x31 + (k.val - 26) := by
  revert k
  decide

theorem eq_symRom_setWidth_iff (u : Word) (k : Fin 35) :
    u = symRom[k].setWidth 32 ↔ u.toNat = (symRom[k]).toNat := by
  rw [← BitVec.toNat_inj, BitVec.toNat_setWidth_of_le (by decide)]

/-- `SymIndex` is the inverse of the symbol ROM on 32-bit units (R156). -/
theorem symIndex_eq_some_iff (u : Word) (k : Fin 35) : symIndex u = some k ↔ u = symRom[k].setWidth 32 := by
  rw [eq_symRom_setWidth_iff, symRom_toNat]
  obtain ⟨k', h, hk', hlow, hhigh⟩ | ⟨k', h, hk', hlow, hhigh⟩ | ⟨h, hletter, hdigit⟩ := symIndex_cases u
  · rw [h, Option.some.injEq, Fin.ext_iff]
    split <;> omega
  · rw [h, Option.some.injEq, Fin.ext_iff]
    split <;> omega
  · rw [h]
    exact iff_of_false (Option.some_ne_none k).symm (by split <;> omega)

theorem symIndex_eq_none_iff (u : Word) : symIndex u = none ↔ ¬∃ k : Fin 35, u = symRom[k].setWidth 32 := by
  simp only [← symIndex_eq_some_iff, Option.eq_none_iff_forall_ne_some, not_exists, ne_eq]

/-! ## The answers of the lookups -/

/-- Commands that answer with different statuses have different outcomes: the last response tells them apart. -/
theorem next_respond_ne {s : State} {st st' : Status} (hne : st ≠ st') (d d' : Word) :
    (.next (respond s st d) : Host.Outcome State Fault Refusal) ≠ .next (respond s st' d') := by
  intro h
  have hresponses := congrArg State.responses (Host.Outcome.next.inj h)
  simp [hne] at hresponses

theorem exec_symat_inside {row col : BitVec 16} (hr : row.toNat < 7) (hc : col.toNat < 5) (s : State) :
    exec (.symat row col) s =
      .next (respond s .ok ((symRom[gridCell ⟨row.toNat, hr⟩ ⟨col.toNat, hc⟩]).setWidth 32)) :=
  exec_symat_some (cellIndex_of_inside hr hc) s

theorem exec_symat_ok_iff (s : State) (row col : BitVec 16) :
    (∃ d, exec (.symat row col) s = .next (respond s .ok d)) ↔ (row.toNat < 7 ∧ col.toNat < 5) := by
  refine ⟨fun ⟨d, hd⟩ => ?_, fun ⟨hr, hc⟩ => ⟨_, exec_symat_inside hr hc s⟩⟩
  by_contra hout
  exact next_respond_ne (by decide) _ _ ((exec_symat_none (cellIndex_of_outside hout) s).symm.trans hd)

/-- `CODEFOR` answers `OK` on the symbols and `ABSENT` on the other units (R147). -/
theorem exec_codefor_answers {s : State} (hg : s.gridValid = true) (u : Word) :
    ((∃ d, exec (.codefor u) s = .next (respond s .ok d)) ↔ ∃ k : Fin 35, u = symRom[k].setWidth 32) ∧
      (exec (.codefor u) s = .next (respond s .absent 0#32) ↔ ¬∃ k : Fin 35, u = symRom[k].setWidth 32) := by
  cases h : symIndex u with
  | some k =>
    have hx := exec_codefor_some hg h
    have hkey : ∃ k : Fin 35, u = symRom[k].setWidth 32 := ⟨k, (symIndex_eq_some_iff u k).mp h⟩
    exact ⟨iff_of_true ⟨_, hx⟩ hkey,
      iff_of_false (fun he => next_respond_ne (by decide) _ _ (hx.symm.trans he)) (not_not_intro hkey)⟩
  | none =>
    have hx := exec_codefor_none hg h
    have hkey := (symIndex_eq_none_iff u).mp h
    exact ⟨iff_of_false (fun ⟨_, he⟩ => next_respond_ne (by decide) _ _ (hx.symm.trans he)) hkey,
      iff_of_true hx hkey⟩

/-! ## The code characters -/

theorem takeSeed_sameGrid (s : State) : SameGrid s (takeSeed s) := ⟨rfl, rfl⟩

theorem countByte_sameGrid (s : State) : SameGrid s (countByte s) := ⟨rfl, rfl⟩

/-- No update but a grid construction writes the table or sets `GRIDVALID` (R44), and a construction fills the table
whatever was in it. -/
theorem codesFromAlphabet_unitUpdate {i : Instr} {s u : State} (h : CodesFromAlphabet s) (hu : UnitUpdate i s u) :
    CodesFromAlphabet u := by
  cases hu with
  | rdcsr => exact h
  | hinit => exact h
  | hbyte b => exact codesFromAlphabet_of_sameGrid h ((absorb_only s b).grid.trans (countByte_sameGrid _))
  | hfin => exact codesFromAlphabet_of_sameGrid h ((finalPad_only s).grid.trans (takeSeed_sameGrid _))
  | mtseed => exact h
  | mtnext => exact h
  | gbuild => exact buildGrid_codesFromAlphabet s
  | symat => exact h
  | codefor => exact h
  | xlate => exact h

theorem codesFromAlphabet_exec {i : Instr} {s t : State} (h : CodesFromAlphabet s) (ht : exec i s = .next t) :
    CodesFromAlphabet t := by
  obtain ⟨e, he⟩ | ⟨u, st, d, hu, _, he⟩ := exec_cases i s
  · obtain rfl := Host.Outcome.next.inj (he.symm.trans ht)
    exact codesFromAlphabet_of_sameGrid h (SameGrid.refl s)
  · obtain rfl := Host.Outcome.next.inj (he.symm.trans ht)
    exact codesFromAlphabet_of_sameGrid (codesFromAlphabet_unitUpdate h hu) (SameGrid.refl u)

/-- The grid `GBUILD` leaves is complete and made of code characters, whatever was there before. -/
theorem exec_gbuild_codes {s : State} (hseed : s.seedValid = true) :
    ∃ t, exec .gbuild s = .next t ∧ t.gridValid = true ∧
      ∀ (k : Fin 35) (j : Fin 4), ∃ c : Fin 78, (t.ct[k])[j] = Config.codeAlphabet.bytes[c] := by
  obtain ⟨_, _, _, _, hgrid, _⟩ := buildGrid_frame Config.codeAlphabet s
  have hcodes := buildGrid_codesFromAlphabet s hgrid
  refine ⟨_, exec_gbuild_seeded hseed, ?_⟩
  rw [respond_gridValid, respond_ct]
  exact ⟨hgrid, hcodes⟩

/-- Settles O42: `SYMAT` by its two bounds, the ROM by inspection, the code characters by the draws and the frame of
every other command, `CODEFOR` by the inverse of the ROM. -/
theorem gridShape : Obligations.GridShape := by
  unfold Obligations.GridShape
  exact ⟨exec_symat_ok_iff, fun s _ _ hr hc => exec_symat_inside hr hc s, by decide, by decide,
    fun _ hseed => exec_gbuild_codes hseed, fun _ _ _ h ht => codesFromAlphabet_exec h ht,
    fun _ u hg => exec_codefor_answers hg u⟩

end Sys2Proof.Machine

/-! PROOFS. The substitution engine (spec/43_substitution.md): the ASCII fold (O46), `SymIndex` as the inverse of the
symbol ROM (O47), and the run of one `XLATE` for each unit, which computes `Transform` (O50). -/

namespace Sys2Proof.Machine

/-! ## The ASCII fold -/

/-- A lower-case letter is at least `0x20`, so the subtraction of R155 does not wrap. -/
theorem upcase_toNat_of_lower {u : Word} (h : 0x61 ≤ u.toNat ∧ u.toNat ≤ 0x7A) :
    (upcase u).toNat = u.toNat - 0x20 := by
  rw [upcase_of_lower h]
  bv_omega

/-- The letters are folded onto `0x41` to `0x5A`, below the range the fold touches. -/
theorem upcase_not_lower (u : Word) : ¬(0x61 ≤ (upcase u).toNat ∧ (upcase u).toNat ≤ 0x7A) := by
  by_cases h : 0x61 ≤ u.toNat ∧ u.toNat ≤ 0x7A
  · rw [upcase_toNat_of_lower h]
    omega
  · rwa [upcase_of_other h]

theorem upcase_upcase (u : Word) : upcase (upcase u) = upcase u := upcase_of_other (upcase_not_lower u)

/-- Settles O46: the two branches of the fold; it is idempotent because its value is never a lower-case letter. -/
theorem upcaseFoldsAscii : Obligations.UpcaseFoldsAscii := by
  unfold Obligations.UpcaseFoldsAscii
  exact fun u => ⟨upcase_toNat_of_lower, upcase_of_other, upcase_upcase u, upcase_not_lower u⟩

/-! ## The symbol index -/

/-- The whole unit is compared with the symbols, which are all below 256 (R156). -/
theorem symIndex_of_wide {u : Word} (h : 256 ≤ u.toNat) : symIndex u = none := by
  obtain ⟨_, _, _, _, hhigh⟩ | ⟨_, _, _, _, hhigh⟩ | ⟨hnone, _, _⟩ := symIndex_cases u
  · omega
  · omega
  · exact hnone

/-- Settles O47: the inverse of the ROM, read for an index and for nothing. -/
theorem symIndexInvertsRom : Obligations.SymIndexInvertsRom := by
  unfold Obligations.SymIndexInvertsRom
  exact ⟨symIndex_eq_some_iff, fun u => (symIndex_eq_none_iff u).trans not_exists, by decide, fun _ => symIndex_of_wide⟩

/-! ## Packed codes -/

/-- Byte `j` of a packed code is its character `j` (R55). -/
theorem byteOf_pack (code : Vector Byte 4) (j : Fin 4) : byteOf (pack code) j.val = code[j] := by
  ext i hi
  simp only [pack, leWord, byteOf, BitVec.getElem_extractLsb', BitVec.getLsbD_or, BitVec.getLsbD_shiftLeft,
    BitVec.getLsbD_setWidth]
  fin_cases j <;> grind

theorem bytes_pack (code : Vector Byte 4) : (List.range 4).map (byteOf (pack code)) = code.toList := by
  refine List.ext_getElem (by simp) fun j hj _ => ?_
  have hj4 : j < 4 := by simpa using hj
  simpa using byteOf_pack code ⟨j, hj4⟩

/-! ## The answer to a unit -/

/-- What `XLATE` answers for a unit while the code table is `ct` (R157). -/
def xlateResponse (ct : Vector (Vector Byte 4) 35) (u : Word) : Response :=
  match symIndex (upcase u) with
  | some k => ⟨.ok, pack ct[k]⟩
  | none => ⟨.pass, upcase u⟩

section
variable {ct : Vector (Vector Byte 4) 35} {u : Word}

theorem xlateResponse_of_some {k : Fin 35} (h : symIndex (upcase u) = some k) :
    xlateResponse ct u = ⟨.ok, pack ct[k]⟩ := by
  rw [xlateResponse, h]

theorem xlateResponse_of_none (h : symIndex (upcase u) = none) : xlateResponse ct u = ⟨.pass, upcase u⟩ := by
  rw [xlateResponse, h]

theorem transformUnit_of_some {k : Fin 35} (h : symIndex (upcase u) = some k) :
    transformUnit ct u = ct[k].toList.map (fun b => b.setWidth 32) := by
  rw [transformUnit, h]

theorem transformUnit_of_none (h : symIndex (upcase u) = none) : transformUnit ct u = [upcase u] := by
  rw [transformUnit, h]

end

theorem hostAppend_ok (d : Word) :
    hostAppend ⟨.ok, d⟩ = ((List.range 4).map (byteOf d)).map (fun b => b.setWidth 32) :=
  (List.map_map ..).symm

/-- From the answer to a unit the host assembles `Out` of the unit (R157, R158). -/
theorem hostAppend_xlateResponse (ct : Vector (Vector Byte 4) 35) (u : Word) :
    hostAppend (xlateResponse ct u) = transformUnit ct u := by
  cases h : symIndex (upcase u) with
  | some k => rw [xlateResponse_of_some h, transformUnit_of_some h, hostAppend_ok, bytes_pack]
  | none => rw [xlateResponse_of_none h, transformUnit_of_none h, hostAppend]

/-! ## The length of the output -/

theorem transform_nil (ct : Vector (Vector Byte 4) 35) : transform ct [] = [] := rfl

theorem transform_cons (ct : Vector (Vector Byte 4) 35) (u : Word) (us : List Word) :
    transform ct (u :: us) = transformUnit ct u ++ transform ct us := List.flatMap_cons

/-- A unit becomes the four characters of its code, or one unit. -/
theorem transformUnit_length (ct : Vector (Vector Byte 4) 35) (u : Word) :
    (transformUnit ct u).length = 4 ∨ (transformUnit ct u).length = 1 := by
  cases h : symIndex (upcase u) with
  | some k => exact .inl (by simp [transformUnit_of_some h])
  | none => exact .inr (by simp [transformUnit_of_none h])

theorem transform_length_bounds (ct : Vector (Vector Byte 4) 35) (us : List Word) :
    us.length ≤ (transform ct us).length ∧ (transform ct us).length ≤ 4 * us.length := by
  induction us with
  | nil => simp [transform_nil]
  | cons u us ih =>
    have hunit := transformUnit_length ct u
    rw [transform_cons, List.length_append, List.length_cons]
    omega

/-! ## The run -/

/-- The state with `rs` delivered and everything else as it is. -/
def State.deliver (s : State) (rs : List Response) : State := { s with responses := s.responses ++ rs }

theorem respond_eq_deliver (s : State) (st : Status) (d : Word) : respond s st d = s.deliver [⟨st, d⟩] := rfl

theorem State.deliver_withEvents (s : State) (rs : List Response) (evs : List HostEvent) :
    (s.withEvents evs).deliver rs = (s.deliver rs).withEvents evs := rfl

theorem State.deliver_nil (s : State) : s.deliver [] = s := by
  simp only [State.deliver, List.append_nil]

theorem State.deliver_deliver (s : State) (rs rs' : List Response) :
    (s.deliver rs).deliver rs' = s.deliver (rs ++ rs') := by
  simp only [State.deliver, List.append_assoc]

theorem State.deliver_sameUnits (s : State) (rs : List Response) : SameUnits s (s.deliver rs) :=
  ⟨SameTwister.refl s, SameHash.refl s, SameSeed.refl s, SameGrid.refl s⟩

theorem State.deliver_sameErr (s : State) (rs : List Response) : SameErr s (s.deliver rs) := SameErr.refl s

/-- `XLATE` with a grid built answers and does nothing else (R157). -/
theorem exec_xlate_gridded {s : State} (hg : s.gridValid = true) (u : Word) :
    exec (.xlate u) s = .next (s.deliver [xlateResponse s.ct u]) := by
  cases h : symIndex (upcase u) with
  | some k => rw [exec_xlate_some hg h, xlateResponse_of_some h, respond_eq_deliver]
  | none => rw [exec_xlate_none hg h, xlateResponse_of_none h, respond_eq_deliver]

/-- Format W takes every operand (R75), so every unit can be presented. -/
theorem decode_encode_xlate (u : Word) : decode (encode (.xlate u)) = .ok (.xlate u) := by
  simp [decode, Instr.opcode, Instr.operandWord, decodeW]

/-- The first presented unit is answered; the others stay presented. -/
theorem run_xformCmds_cons {s : State} (hg : s.gridValid = true) (n : Nat) (u : Word) (us : List Word)
    (rest : List HostEvent) :
    run (n + 1) (s.withEvents (present (xformCmds (u :: us)) ++ rest)) =
      run n ((s.deliver [xlateResponse s.ct u]).withEvents (present (xformCmds us) ++ rest)) := by
  refine run_present_cons (is := xformCmds us) n rfl (decode_encode_xlate u) ?_
  rw [← State.deliver_withEvents]
  exact exec_xlate_gridded (s := s.withEvents (present (xformCmds us) ++ rest)) hg u

/-- The end state of the run, exactly: the answers are delivered and nothing else has happened (R158). -/
theorem run_xformCmds {s : State} (hg : s.gridValid = true) (us : List Word) (rest : List HostEvent) :
    run us.length (s.withEvents (present (xformCmds us) ++ rest)) =
      .next ((s.deliver (us.map (xlateResponse s.ct))).withEvents rest) := by
  induction us generalizing s with
  | nil => rw [List.map_nil, State.deliver_nil]; rfl
  | cons u us ih =>
    calc run (us.length + 1) (s.withEvents (present (xformCmds (u :: us)) ++ rest))
      _ = run us.length ((s.deliver [xlateResponse s.ct u]).withEvents (present (xformCmds us) ++ rest)) :=
        run_xformCmds_cons hg us.length u us rest
      _ = .next (((s.deliver [xlateResponse s.ct u]).deliver (us.map (xlateResponse s.ct))).withEvents rest) :=
        ih (s := s.deliver [xlateResponse s.ct u]) hg
      _ = .next ((s.deliver ((u :: us).map (xlateResponse s.ct))).withEvents rest) := by
        rw [State.deliver_deliver, List.map_cons, List.singleton_append]

/-- The host assembles the output unit by unit. -/
theorem flatMap_hostAppend_xlateResponse (ct : Vector (Vector Byte 4) 35) (us : List Word) :
    (us.map (xlateResponse ct)).flatMap hostAppend = transform ct us := by
  simp only [List.flatMap_map, hostAppend_xlateResponse, transform]

/-- Settles O50: the run delivers the answers and changes no unit; what the host assembles from them is `Transform`. -/
theorem xlateRunComputesTransform : Obligations.XlateRunComputesTransform := by
  unfold Obligations.XlateRunComputesTransform
  refine ⟨fun s us rest hg => ?_, transform_nil⟩
  have hunits := s.deliver_sameUnits (us.map (xlateResponse s.ct))
  have herr := s.deliver_sameErr (us.map (xlateResponse s.ct))
  exact ⟨_, _, run_xformCmds hg us rest, rfl, hunits, herr, rfl, List.length_map _,
    flatMap_hostAppend_xlateResponse s.ct us, transform_length_bounds s.ct us⟩

end Sys2Proof.Machine

/-! PROOFS. The `STATUS` words of runs from reset (spec/44_system.md R171): a built grid has an open message or a
derived seed beside it in every state a run reaches, so two of the words R171 counts are never read (O55). -/

namespace Sys2Proof.Machine

/-! ## What every step keeps, every run keeps -/

theorem run_keeps {P : State → Prop} (hstep : ∀ s t, P s → step s = .next t → P t) {n : Nat} {s t : State}
    (h : P s) (ht : run n s = .next t) : P t := by
  induction n generalizing s with
  | zero =>
    obtain rfl := Host.Outcome.next.inj ht
    exact h
  | succ n ih =>
    cases hs : step s with
    | next u => exact ih (hstep s u h hs) ((run_succ_of_step n hs).symm.trans ht)
    | fault r => simp [run, hs] at ht
    | refused r => simp [run, hs] at ht

/-! ## A grid comes with an open message or a seed -/

/-- The item that is missing from R39: `GBUILD` needs a derived seed (R142), `HINIT` discards it only to open a message
(R102), and `HFIN` closes the message only to derive a seed (R108). -/
def GridNeedsMessageOrSeed (s : State) : Prop := s.gridValid = true → s.hopen = true ∨ s.seedValid = true

theorem gridNeedsMessageOrSeed_of_same {s t : State} (h : GridNeedsMessageOrSeed s) (hgrid : SameGrid s t)
    (hopen : t.hopen = s.hopen) (hseed : SameSeed s t) : GridNeedsMessageOrSeed t := by
  obtain ⟨_, hgv⟩ := hgrid
  obtain ⟨_, hsv⟩ := hseed
  intro ht
  rw [hopen, hsv]
  exact h (hgv.symm.trans ht)

/-- The three updates that write one of the flags leave `HOPEN` or `SEEDVALID` set: `HINIT`, `HFIN`, and `GBUILD` by its
prerequisite. `HBYTE` keeps the message open. -/
theorem gridNeedsMessageOrSeed_unitUpdate {i : Instr} {s u : State} (h : GridNeedsMessageOrSeed s)
    (hu : UnitUpdate i s u) : GridNeedsMessageOrSeed u := by
  cases hu with
  | rdcsr => exact h
  | hinit => exact fun _ => .inl rfl
  | hbyte b hopen => exact fun _ => .inl ((absorb_only s b).hopen.trans hopen)
  | hfin => exact fun _ => .inr rfl
  | mtseed => exact h
  | mtnext => exact h
  | gbuild hseed =>
    obtain ⟨_, ⟨_, hsv⟩, _⟩ := buildGrid_frame Config.codeAlphabet s
    exact fun _ => .inr (hsv.trans hseed)
  | symat => exact h
  | codefor => exact h
  | xlate => exact h

/-- An error writes the error record and the response alone, so it moves none of the three flags. -/
theorem gridNeedsMessageOrSeed_raise {s : State} (h : GridNeedsMessageOrSeed s) (e : ErrStatus) (op : Byte) :
    GridNeedsMessageOrSeed (raise s e op) :=
  gridNeedsMessageOrSeed_of_same h (SameGrid.refl s) rfl (SameSeed.refl s)

theorem gridNeedsMessageOrSeed_exec {i : Instr} {s t : State} (h : GridNeedsMessageOrSeed s)
    (ht : exec i s = .next t) : GridNeedsMessageOrSeed t := by
  obtain ⟨e, he⟩ | ⟨u, st, d, hu, _, he⟩ := exec_cases i s
  · obtain rfl := Host.Outcome.next.inj (he.symm.trans ht)
    exact gridNeedsMessageOrSeed_raise h e i.opcode
  · obtain rfl := Host.Outcome.next.inj (he.symm.trans ht)
    exact gridNeedsMessageOrSeed_of_same (gridNeedsMessageOrSeed_unitUpdate h hu) (SameGrid.refl u) rfl
      (SameSeed.refl u)

theorem gridNeedsMessageOrSeed_stepCommand {w : Cmd} {s t : State} (h : GridNeedsMessageOrSeed s)
    (ht : stepCommand w s = .next t) : GridNeedsMessageOrSeed t := by
  cases hd : decode w with
  | ok i => exact gridNeedsMessageOrSeed_exec h ((stepCommand_ok hd s).symm.trans ht)
  | error e =>
    obtain rfl := Host.Outcome.next.inj ((stepCommand_error hd s).symm.trans ht)
    cases e with
    | illegal op => exact gridNeedsMessageOrSeed_raise h .eIllegal op
    | operand op => exact gridNeedsMessageOrSeed_raise h .eOperand op

/-- A reset clears `GRIDVALID` (R201). -/
theorem gridNeedsMessageOrSeed_applyReset (s : State) : GridNeedsMessageOrSeed (applyReset s) :=
  fun h => Bool.noConfusion h

theorem gridNeedsMessageOrSeed_step {s t : State} (h : GridNeedsMessageOrSeed s) (ht : step s = .next t) :
    GridNeedsMessageOrSeed t := by
  match hev : s.events with
  | [] =>
    obtain rfl := Host.Outcome.next.inj ((step_idle hev).symm.trans ht)
    exact h
  | .command w :: rest =>
    have hrest : GridNeedsMessageOrSeed (s.withEvents rest) := h
    exact gridNeedsMessageOrSeed_stepCommand hrest ((step_command hev).symm.trans ht)
  | .reset :: rest =>
    obtain rfl := Host.Outcome.next.inj ((step_reset hev).symm.trans ht)
    exact gridNeedsMessageOrSeed_applyReset _
  | .abandoned w :: rest =>
    obtain rfl := Host.Outcome.next.inj ((step_abandoned hev).symm.trans ht)
    exact gridNeedsMessageOrSeed_applyReset _

theorem gridNeedsMessageOrSeed_reset (evs : List HostEvent) :
    GridNeedsMessageOrSeed (State.reset.withEvents evs) := fun h => Bool.noConfusion h

theorem gridNeedsMessageOrSeed_run {evs : List HostEvent} {n : Nat} {t : State}
    (ht : run n (State.reset.withEvents evs) = .next t) : GridNeedsMessageOrSeed t :=
  run_keeps (fun _ _ => gridNeedsMessageOrSeed_step) (gridNeedsMessageOrSeed_reset evs) ht

/-! ## The flags as bits of `STATUS` -/

/-- The flags enter `STATUS` one bit at a time, `ERR` first and `HOPEN` last (R170). -/
theorem statusWord_eq_concat (s : State) :
    statusWord s =
      (((((0#27).concat s.err).concat s.gridValid).concat s.mtValid).concat s.seedValid).concat s.hopen := rfl

theorem statusWord_getLsbD_zero (s : State) : (statusWord s).getLsbD 0 = s.hopen := by
  rw [statusWord_eq_concat, BitVec.getLsbD_concat_zero]

theorem statusWord_getLsbD_one (s : State) : (statusWord s).getLsbD 1 = s.seedValid := by
  rw [statusWord_eq_concat, BitVec.getLsbD_concat_succ, BitVec.getLsbD_concat_zero]

theorem statusWord_getLsbD_three (s : State) : (statusWord s).getLsbD 3 = s.gridValid := by
  rw [statusWord_eq_concat, BitVec.getLsbD_concat_succ, BitVec.getLsbD_concat_succ, BitVec.getLsbD_concat_succ,
    BitVec.getLsbD_concat_zero]

/-- A word of a run from reset that shows a grid shows an open message or a seed too. -/
theorem run_statusWord_bits {evs : List HostEvent} {n : Nat} {t : State}
    (ht : run n (State.reset.withEvents evs) = .next t) (hgrid : (statusWord t).getLsbD 3 = true) :
    (statusWord t).getLsbD 0 = true ∨ (statusWord t).getLsbD 1 = true := by
  rw [statusWord_getLsbD_three] at hgrid
  rw [statusWord_getLsbD_zero, statusWord_getLsbD_one]
  exact gridNeedsMessageOrSeed_run ht hgrid

/-- Refutes O55: `0x0C` is one of the 18 words, and shows a grid (and the twister it needs) with neither an open message
nor a seed. -/
theorem not_ruleR171CountOfStatusWords : ¬ Obligations.RuleR171CountOfStatusWords := by
  unfold Obligations.RuleR171CountOfStatusWords
  intro ⟨hwords, _⟩
  obtain ⟨evs, n, t, ht, hstatus⟩ := (hwords 0x0C#32).mpr (by decide)
  have hbits := run_statusWord_bits ht
  rw [hstatus] at hbits
  exact absurd hbits (by decide)

end Sys2Proof.Machine

/-! PROOFS. Errors and statuses (spec/60_exceptions.md): the status a command word ends in, as a function of the state
and the word (`wordStatus`), to which every step is tied once (`step_ends`). From it: each error has exactly its cause
(O7), every word is answered once (O8), the statuses of each command (O9), and the error entry itself (O10). -/

namespace Sys2Proof.Machine

/-! ## The error entry -/

/-- Settles O10: the record is written only while `ERR` is 0; the rest is what raising any error does (R185). -/
theorem raiseRecordsAndAnswers : Obligations.RaiseRecordsAndAnswers := by
  unfold Obligations.RaiseRecordsAndAnswers
  intro s e op
  obtain ⟨herr, hcode, hop, hunits, hans⟩ := raise_raised s e op
  refine ⟨fun h => ?_, fun h => ?_, herr, hans, hunits⟩
  · exact ⟨hcode.trans (by simp [h]), hop.trans (by simp [h])⟩
  · exact ⟨hcode.trans (by simp [h]), hop.trans (by simp [h])⟩

/-! ## How a word reads -/

theorem encode_eq_of_fields {w : Cmd} {i : Instr} (hop : i.opcode = opField w) (harg : i.operandWord = argField w) :
    encode i = w := by
  rw [encode, hop, harg, fields_append]

/-- A word with a defined opcode byte breaks its operand format, or encodes the command it decodes to (R78). -/
def ReadsOrRefuses (w : Cmd) : Prop :=
  (OperandIllegal (opField w) (argField w) ∧ decode w = .error (.operand (opField w))) ∨
    ∃ i, encode i = w ∧ decode w = .ok i

section
variable {w : Cmd} {op : Byte}

theorem readsOrRefuses_Z {i : Instr} (hop : opField w = op) (hd : decode w = decodeZ op (argField w) i)
    (hz : op ∈ ([0x10, 0x12, 0x21, 0x30] : List Byte)) (hi : i.opcode = op) (harg : i.operandWord = 0#32) :
    ReadsOrRefuses w := by
  subst hop
  by_cases h : argField w = 0#32
  · exact .inr ⟨i, encode_eq_of_fields hi (harg.trans h.symm), hd.trans (if_pos h)⟩
  · exact .inl ⟨.inl ⟨hz, h⟩, hd.trans (if_neg h)⟩

theorem readsOrRefuses_W {mk : Word → Instr} (hop : opField w = op) (hd : decode w = decodeW (argField w) mk)
    (hi : (mk (argField w)).opcode = op) (harg : (mk (argField w)).operandWord = argField w) : ReadsOrRefuses w :=
  .inr ⟨mk (argField w), encode_eq_of_fields (hi.trans hop.symm) harg, hd⟩

theorem readsOrRefuses_symat (hop : opField w = 0x31#8) (hd : decode w = decodeRC (argField w) .symat) :
    ReadsOrRefuses w :=
  .inr ⟨_, encode_eq_of_fields (i := .symat _ _) hop.symm (append_extractLsb' (m := 16) (n := 16) (argField w)), hd⟩

theorem readsOrRefuses_hbyte (hop : opField w = 0x11#8) (hd : decode w = decodeB 0x11#8 (argField w) .hbyte) :
    ReadsOrRefuses w := by
  by_cases h : (argField w).extractLsb' 8 24 = 0#24
  · have harg : 0#24 ++ (argField w).extractLsb' 0 8 = argField w := by
      rw [← h, append_extractLsb' (m := 24) (n := 8)]
    exact .inr ⟨_, encode_eq_of_fields (i := .hbyte _) hop.symm harg, hd.trans (if_pos h)⟩
  · rw [← hop] at hd
    exact .inl ⟨.inr (.inl ⟨hop, h⟩), hd.trans (if_neg h)⟩

theorem readsOrRefuses_rdcsr (hop : opField w = 0x01#8) (hd : decode w = decodeN 0x01#8 (argField w) .rdcsr) :
    ReadsOrRefuses w := by
  by_cases h : (argField w).toNat < 3
  · have hhigh : (argField w).extractLsb' 2 30 = 0#30 := by
      apply BitVec.eq_of_toNat_eq
      rw [BitVec.extractLsb'_toNat, Nat.shiftRight_eq_div_pow, BitVec.toNat_ofNat]
      omega
    have harg : 0#30 ++ (argField w).extractLsb' 0 2 = argField w := by
      rw [← hhigh, append_extractLsb' (m := 30) (n := 2)]
    exact .inr ⟨_, encode_eq_of_fields (i := .rdcsr _) hop.symm harg, hd.trans (if_pos h)⟩
  · rw [← hop] at hd
    exact .inl ⟨.inr (.inr ⟨hop, Nat.le_of_not_lt h⟩), hd.trans (if_neg h)⟩

end

/-- The ten rows of the opcode table (R72), each by its operand format. -/
theorem readsOrRefuses_of_defined {w : Cmd} (h : opField w ∈ definedOpcodes) : ReadsOrRefuses w := by
  simp only [definedOpcodes, List.mem_cons, List.not_mem_nil, or_false] at h
  obtain h | h | h | h | h | h | h | h | h | h := h
  · exact readsOrRefuses_rdcsr h (by simp [decode, h])
  · exact readsOrRefuses_Z (i := .hinit) h (by simp [decode, h]) (by decide) rfl rfl
  · exact readsOrRefuses_hbyte h (by simp [decode, h])
  · exact readsOrRefuses_Z (i := .hfin) h (by simp [decode, h]) (by decide) rfl rfl
  · exact readsOrRefuses_W (mk := .mtseed) h (by simp [decode, h]) rfl rfl
  · exact readsOrRefuses_Z (i := .mtnext) h (by simp [decode, h]) (by decide) rfl rfl
  · exact readsOrRefuses_Z (i := .gbuild) h (by simp [decode, h]) (by decide) rfl rfl
  · exact readsOrRefuses_symat h (by simp [decode, h])
  · exact readsOrRefuses_W (mk := .codefor) h (by simp [decode, h]) rfl rfl
  · exact readsOrRefuses_W (mk := .xlate) h (by simp [decode, h]) rfl rfl

/-- The three ways a word can read, in the priority order of R184. -/
theorem decode_cases (w : Cmd) :
    (opField w ∉ definedOpcodes ∧ decode w = .error (.illegal (opField w))) ∨ ReadsOrRefuses w := by
  by_cases h : opField w ∈ definedOpcodes
  · exact .inr (readsOrRefuses_of_defined h)
  · exact .inl ⟨h, decode_of_undefined h⟩

/-! ## The status a command ends in -/

/-- A status that needs a valid flag, and the error its absence raises (R181). -/
def guardedStatus (flag : Bool) (e : ErrStatus) (st : Status) : Status := if flag then st else .error e

/-- The status of a lookup: `OK` on a hit. -/
def lookupStatus (missed : Status) : Option (Fin 35) → Status
  | some _ => .ok
  | none => missed

/-- The status of `RDCSR`: only `SEED` has a prerequisite, and number 3 is no register (R170). -/
def csrStatus (s : State) (n : BitVec 2) : Status :=
  if n = 1#2 then guardedStatus s.seedValid .eNoseed .ok else if n = 3#2 then .error .eOperand else .ok

/-- The status each command ends in (R181, R182). -/
def endStatus (s : State) : Instr → Status
  | .rdcsr n => csrStatus s n
  | .hinit => .ok
  | .hbyte _ => guardedStatus s.hopen .eHstate .ok
  | .hfin => guardedStatus s.hopen .eHstate .ok
  | .mtseed _ => .ok
  | .mtnext => guardedStatus s.mtValid .eNomt .ok
  | .gbuild => guardedStatus s.seedValid .eNoseed .ok
  | .symat row col => lookupStatus .bounds (cellIndex row col)
  | .codefor u => guardedStatus s.gridValid .eNogrid (lookupStatus .absent (symIndex u))
  | .xlate u => guardedStatus s.gridValid .eNogrid (lookupStatus .pass (symIndex (upcase u)))

/-- The error a refused word raises (R79, R80). -/
def decodeErrStatus : DecodeError → ErrStatus
  | .illegal _ => .eIllegal
  | .operand _ => .eOperand

/-- The status a command word ends in. -/
def wordStatus (s : State) (w : Cmd) : Status :=
  match decode w with
  | .ok i => endStatus s i
  | .error e => .error (decodeErrStatus e)

theorem wordStatus_of_ok {w : Cmd} {i : Instr} (h : decode w = .ok i) (s : State) :
    wordStatus s w = endStatus s i := by simp [wordStatus, h]

theorem wordStatus_of_error {w : Cmd} {e : DecodeError} (h : decode w = .error e) (s : State) :
    wordStatus s w = .error (decodeErrStatus e) := by simp [wordStatus, h]

theorem endStatus_withEvents (s : State) (evs : List HostEvent) (i : Instr) :
    endStatus (s.withEvents evs) i = endStatus s i := by
  cases i <;> rfl

theorem wordStatus_withEvents (s : State) (evs : List HostEvent) (w : Cmd) :
    wordStatus (s.withEvents evs) w = wordStatus s w := by
  cases hd : decode w with
  | ok i => rw [wordStatus_of_ok hd, wordStatus_of_ok hd, endStatus_withEvents]
  | error e => rw [wordStatus_of_error hd, wordStatus_of_error hd]

@[simp] theorem lookupStatus_eq_error_iff {missed : Status} {k : Option (Fin 35)} {e : ErrStatus} :
    lookupStatus missed k = .error e ↔ k = none ∧ missed = .error e := by
  cases k <;> simp [lookupStatus]

@[simp] theorem guardedStatus_eq_error_iff {flag : Bool} {e e' : ErrStatus} {st : Status} :
    guardedStatus flag e st = .error e' ↔ if flag then st = .error e' else e = e' := by
  cases flag <;> simp [guardedStatus]

theorem csrNumber_cases (n : BitVec 2) : n = 0#2 ∨ n = 1#2 ∨ n = 2#2 ∨ n = 3#2 := by
  revert n
  decide

@[simp] theorem csrStatus_eq_error_iff {s : State} {n : BitVec 2} {e : ErrStatus} :
    csrStatus s n = .error e ↔
      (n = 1#2 ∧ s.seedValid = false ∧ .eNoseed = e) ∨ (n = 3#2 ∧ .eOperand = e) := by
  obtain rfl | rfl | rfl | rfl := csrNumber_cases n
  · simp [csrStatus]
  · cases h : s.seedValid <;> simp [csrStatus, guardedStatus, h]
  · simp [csrStatus]
  · simp [csrStatus]

/-! ## The step and the status -/

/-- What ends in status `st` has answered it once, from a step that completed; if `st` is an error, the step was its
`raise` and nothing else. -/
def EndsIn (o : Host.Outcome State Fault Refusal) (s : State) (op : Byte) (st : Status) : Prop :=
  ∃ t d, o = .next t ∧ Answered s t [⟨st, d⟩] ∧ ∀ e, st = .error e → t = raise s e op

theorem endsIn_raise (s : State) (e : ErrStatus) (op : Byte) : EndsIn (.next (raise s e op)) s op (.error e) := by
  obtain ⟨_, _, _, _, hans⟩ := raise_raised s e op
  exact ⟨_, _, rfl, hans, fun _ h => by rw [Status.error.inj h]⟩

/-- An update of the units delivers no response and takes no event. -/
theorem UnitUpdate.answered {i : Instr} {s u : State} (h : UnitUpdate i s u) (st : Status) (d : Word) :
    Answered s (respond u st d) [⟨st, d⟩] := by
  cases h with
  | hbyte b =>
    have ho := absorb_only s b
    exact respond_answered_of ((countByte_responses _).trans ho.responses) ((countByte_events _).trans ho.events)
      ((countByte_resets _).trans ho.resets) st d
  | hfin =>
    have ho := finalPad_only s
    exact respond_answered_of ((takeSeed_responses _).trans ho.responses) ((takeSeed_events _).trans ho.events)
      ((takeSeed_resets _).trans ho.resets) st d
  | gbuild =>
    obtain ⟨_, _, _, _, _, hresp, hev, hres⟩ := buildGrid_frame Config.codeAlphabet s
    exact respond_answered_of hresp hev hres st d
  | hinit | mtseed | mtnext => exact ⟨rfl, rfl, rfl⟩
  | rdcsr | symat | codefor | xlate => exact respond_answered s st d

section
variable {i : Instr} {s : State}

theorem endsIn_of_raise {e : ErrStatus} (h : exec i s = .next (raise s e i.opcode)) :
    EndsIn (exec i s) s i.opcode (.error e) := h ▸ endsIn_raise s e i.opcode

theorem endsIn_of_respond {u : State} {st : Status} {d : Word} (h : exec i s = .next (respond u st d))
    (hu : UnitUpdate i s u) (hst : st.isError = false) : EndsIn (exec i s) s i.opcode st :=
  ⟨_, d, h, hu.answered st d, fun e he => by simp [he, Status.isError] at hst⟩

/-- A command with a prerequisite is settled by the two values of its flag. -/
theorem endsIn_guarded {flag : Bool} {e : ErrStatus} {st : Status}
    (hunmet : flag = false → exec i s = .next (raise s e i.opcode))
    (hmet : flag = true → EndsIn (exec i s) s i.opcode st) :
    EndsIn (exec i s) s i.opcode (guardedStatus flag e st) := by
  cases flag with
  | false => exact endsIn_of_raise (hunmet rfl)
  | true => exact hmet rfl

end

theorem exec_rdcsr_endsIn (n : BitVec 2) (s : State) :
    EndsIn (exec (.rdcsr n) s) s 0x01#8 (csrStatus s n) := by
  obtain rfl | rfl | rfl | rfl := csrNumber_cases n
  · exact endsIn_of_respond (exec_rdcsr_status s) (.rdcsr _ s) rfl
  · exact endsIn_guarded exec_rdcsr_noSeed (fun h => endsIn_of_respond (exec_rdcsr_seed h) (.rdcsr _ s) rfl)
  · exact endsIn_of_respond (exec_rdcsr_errInfo s) (.rdcsr _ s) rfl
  · exact endsIn_of_raise (exec_rdcsr_absent s)

theorem exec_symat_endsIn (row col : BitVec 16) (s : State) :
    EndsIn (exec (.symat row col) s) s 0x31#8 (lookupStatus .bounds (cellIndex row col)) := by
  cases h : cellIndex row col with
  | some k => exact endsIn_of_respond (exec_symat_some h s) (.symat row col s) rfl
  | none => exact endsIn_of_respond (exec_symat_none h s) (.symat row col s) rfl

theorem exec_codefor_endsIn (u : Word) {s : State} (hg : s.gridValid = true) :
    EndsIn (exec (.codefor u) s) s 0x32#8 (lookupStatus .absent (symIndex u)) := by
  cases h : symIndex u with
  | some k => exact endsIn_of_respond (exec_codefor_some hg h) (.codefor u hg) rfl
  | none => exact endsIn_of_respond (exec_codefor_none hg h) (.codefor u hg) rfl

theorem exec_xlate_endsIn (u : Word) {s : State} (hg : s.gridValid = true) :
    EndsIn (exec (.xlate u) s) s 0x40#8 (lookupStatus .pass (symIndex (upcase u))) := by
  cases h : symIndex (upcase u) with
  | some k => exact endsIn_of_respond (exec_xlate_some hg h) (.xlate u hg) rfl
  | none => exact endsIn_of_respond (exec_xlate_none hg h) (.xlate u hg) rfl

/-- Every command completes and answers the status `endStatus` gives. -/
theorem exec_endsIn (i : Instr) (s : State) : EndsIn (exec i s) s i.opcode (endStatus s i) := by
  cases i with
  | rdcsr n => exact exec_rdcsr_endsIn n s
  | hinit => exact endsIn_of_respond (exec_hinit s) (.hinit s) rfl
  | hbyte b =>
    exact endsIn_guarded (exec_hbyte_closed · b)
      (fun h => endsIn_of_respond (exec_hbyte_open h b) (.hbyte b h) rfl)
  | hfin => exact endsIn_guarded exec_hfin_closed (fun h => endsIn_of_respond (exec_hfin_open h) (.hfin h) rfl)
  | mtseed w => exact endsIn_of_respond (exec_mtseed w s) (.mtseed w s) rfl
  | mtnext =>
    exact endsIn_guarded exec_mtnext_unseeded
      (fun h => endsIn_of_respond (exec_mtnext_seeded h) (.mtnext h) rfl)
  | gbuild =>
    exact endsIn_guarded exec_gbuild_unseeded
      (fun h => endsIn_of_respond (exec_gbuild_seeded h) (.gbuild h) rfl)
  | symat row col => exact exec_symat_endsIn row col s
  | codefor u => exact endsIn_guarded (exec_codefor_noGrid · u) (exec_codefor_endsIn u)
  | xlate u => exact endsIn_guarded (exec_xlate_noGrid · u) (exec_xlate_endsIn u)

theorem stepCommand_endsIn (w : Cmd) (s : State) : EndsIn (stepCommand w s) s (opField w) (wordStatus s w) := by
  obtain ⟨_, hd⟩ | ⟨_, hd⟩ | ⟨i, rfl, hd⟩ := decode_cases w
  · rw [stepCommand_error hd, wordStatus_of_error hd]
    exact endsIn_raise s .eIllegal (opField w)
  · rw [stepCommand_error hd, wordStatus_of_error hd]
    exact endsIn_raise s .eOperand (opField w)
  · rw [stepCommand_ok hd, wordStatus_of_ok hd, opField_encode]
    exact exec_endsIn i s

/-- A step that takes a command word completes and answers the status `wordStatus` gives. -/
theorem step_endsIn {s : State} {w : Cmd} {rest : List HostEvent} (hev : s.events = .command w :: rest) :
    EndsIn (step s) (s.withEvents rest) (opField w) (wordStatus s w) := by
  rw [step_command hev, ← wordStatus_withEvents s rest]
  exact stepCommand_endsIn w (s.withEvents rest)

/-- The one response of such a step has that status, and data 0 if it is an error. -/
theorem step_response_eq {s t : State} {w : Cmd} {rest : List HostEvent} {st : Status} {d : Word}
    (hev : s.events = .command w :: rest) (ht : step s = .next t) (hr : t.responses = s.responses ++ [⟨st, d⟩]) :
    wordStatus s w = st ∧ ∀ e, st = .error e → d = 0#32 := by
  obtain ⟨t', d', hstep, ⟨hans, _⟩, hraise⟩ := step_endsIn hev
  obtain rfl := Host.Outcome.next.inj (hstep.symm.trans ht)
  have hresp : ([⟨wordStatus s w, d'⟩] : List Response) = [⟨st, d⟩] :=
    List.append_cancel_left (hans.symm.trans hr)
  obtain ⟨rfl, rfl⟩ : wordStatus s w = st ∧ d' = d := by simpa using hresp
  refine ⟨rfl, fun e he => ?_⟩
  rw [hraise e he] at hans
  have hdata := List.append_cancel_left ((raise_responses (s.withEvents rest) e (opField w)).symm.trans hans)
  simpa using (congrArg (List.map Response.data) hdata).symm

/-! ## The cause of each error -/

/-- The opcode bytes whose operand format refuses some operand (R73, R74, R77). -/
def checkedOpcodes : List Byte := [0x01, 0x10, 0x11, 0x12, 0x21, 0x30]

theorem OperandIllegal.checked {op : Byte} {arg : Word} (h : OperandIllegal op arg) : op ∈ checkedOpcodes := by
  obtain ⟨hz, _⟩ | ⟨rfl, _⟩ | ⟨rfl, _⟩ := h
  · exact (by decide : ∀ b ∈ ([0x10, 0x12, 0x21, 0x30] : List Byte), b ∈ checkedOpcodes) op hz
  · decide
  · decide

theorem OperandIllegal.defined {op : Byte} {arg : Word} (h : OperandIllegal op arg) : op ∈ definedOpcodes :=
  (by decide : ∀ b ∈ checkedOpcodes, b ∈ definedOpcodes) op h.checked

theorem opcode_defined (i : Instr) : i.opcode ∈ definedOpcodes := by
  cases i <;> simp [Instr.opcode, definedOpcodes]

/-- The one term whose encoding breaks its format is `RDCSR 3` (R77). -/
theorem operandIllegal_encode_iff (i : Instr) : OperandIllegal i.opcode i.operandWord ↔ i = .rdcsr 3#2 := by
  cases i with
  | rdcsr n =>
    have hn : 3 ≤ (0#30 ++ n : Word).toNat ↔ n = 3#2 := by revert n; decide
    simp [OperandIllegal, Instr.opcode, Instr.operandWord, hn]
  | hbyte b =>
    have hb : (0#24 ++ b : Word).extractLsb' 8 24 = 0#24 := extractLsb'_append_high _ _
    simp [OperandIllegal, Instr.opcode, Instr.operandWord, hb]
  | _ => simp [OperandIllegal, Instr.opcode, Instr.operandWord]

/-- `ErrorCause` names a defined opcode byte for each error but `E_ILLEGAL`. -/
theorem ErrorCause.defined {s : State} {w : Cmd} {e : ErrStatus} (h : ErrorCause s w e) (he : e ≠ .eIllegal) :
    opField w ∈ definedOpcodes := by
  cases e with
  | eIllegal => exact absurd rfl he
  | eOperand => exact OperandIllegal.defined h
  | eHstate => obtain ⟨_, hop | hop, _⟩ := h <;> rw [hop] <;> decide
  | eNoseed => obtain ⟨_, hop | ⟨hop, _⟩, _⟩ := h <;> rw [hop] <;> decide
  | eNomt => obtain ⟨_, hop, _⟩ := h; rw [hop]; decide
  | eNogrid => obtain ⟨hop | hop, _⟩ := h <;> rw [hop] <;> decide

theorem errorCause_of_undefined {s : State} {w : Cmd} (h : opField w ∉ definedOpcodes) (e : ErrStatus) :
    ErrorCause s w e ↔ e = .eIllegal := by
  refine ⟨fun hc => ?_, fun he => he ▸ h⟩
  by_contra he
  exact h (hc.defined he)

/-- The operand is checked before the prerequisite (R184). -/
theorem errorCause_of_operandIllegal {s : State} {w : Cmd} (h : OperandIllegal (opField w) (argField w))
    (e : ErrStatus) : ErrorCause s w e ↔ e = .eOperand := by
  refine ⟨fun hc => ?_, fun he => he ▸ h⟩
  cases e with
  | eIllegal => exact absurd h.defined hc
  | eOperand => rfl
  | eHstate | eNoseed | eNomt =>
    obtain ⟨hlegal, _⟩ := hc
    exact absurd h hlegal
  | eNogrid =>
    have hchecked := h.checked
    obtain ⟨hop | hop, _⟩ := hc <;> exact absurd (hop ▸ hchecked) (by decide)

theorem rdcsr_operandWord_eq_one_iff (n : BitVec 2) : (Instr.rdcsr n).operandWord = 1#32 ↔ n = 1#2 := by
  revert n; decide

/-- Over the commands, each cause says of a command what `endStatus` says of it. -/
theorem errorCause_encode_iff (s : State) (i : Instr) (e : ErrStatus) :
    ErrorCause s (encode i) e ↔ endStatus s i = .error e := by
  cases e with
  | eIllegal =>
    simp only [ErrorCause, opField_encode, opcode_defined]
    cases i <;> simp [endStatus]
  | eOperand =>
    simp only [ErrorCause, opField_encode, argField_encode, operandIllegal_encode_iff]
    cases i <;> simp [endStatus]
  | eHstate | eNomt =>
    simp only [ErrorCause, opField_encode, argField_encode, operandIllegal_encode_iff]
    cases i <;> simp [endStatus, Instr.opcode]
  | eNoseed =>
    simp only [ErrorCause, opField_encode, argField_encode, operandIllegal_encode_iff]
    cases i with
    | rdcsr n =>
      have hn : n = 1#2 → n ≠ 3#2 := by rintro rfl; decide
      simpa [endStatus, Instr.opcode, rdcsr_operandWord_eq_one_iff] using fun h _ => hn h
    | _ => simp [endStatus, Instr.opcode]
  | eNogrid =>
    simp only [ErrorCause, opField_encode]
    cases i <;> simp [endStatus, Instr.opcode]

/-- A word has the cause of an error exactly when it ends in that error. -/
theorem errorCause_iff (s : State) (w : Cmd) (e : ErrStatus) : ErrorCause s w e ↔ wordStatus s w = .error e := by
  obtain ⟨h, hd⟩ | ⟨h, hd⟩ | ⟨i, rfl, hd⟩ := decode_cases w
  · rw [errorCause_of_undefined h, wordStatus_of_error hd, Status.error.injEq, eq_comm, decodeErrStatus]
  · rw [errorCause_of_operandIllegal h, wordStatus_of_error hd, Status.error.injEq, eq_comm, decodeErrStatus]
  · rw [errorCause_encode_iff, wordStatus_of_ok hd]

/-- Settles O7: the cause is the status, and the status of a step is that of its word. -/
theorem errorStatusHasItsCause : Obligations.ErrorStatusHasItsCause := by
  unfold Obligations.ErrorStatusHasItsCause
  refine ⟨⟨rfl, rfl, rfl, rfl, rfl, rfl⟩, fun s w rest e hev => ⟨fun hcause => ?_, fun t d ht hr => ?_⟩⟩
  · obtain ⟨t, _, hstep, _, hraise⟩ := step_endsIn hev
    obtain rfl := hraise e ((errorCause_iff s w e).mp hcause)
    exact ⟨_, hstep, raise_raised (s.withEvents rest) e (opField w)⟩
  · obtain ⟨hst, hdata⟩ := step_response_eq hev ht hr
    exact ⟨(errorCause_iff s w e).mpr hst, hdata e rfl⟩

/-! ## Every word is answered -/

theorem status_code_mem (st : Status) : st.code.toNat ∈ [0, 1, 2, 3, 8, 9, 10, 11, 12, 13] := by
  cases st with
  | error e => cases e <;> decide
  | _ => decide

/-- Settles O8: the step ends in the status of its word. -/
theorem everyCommandAnswersOnce : Obligations.EveryCommandAnswersOnce := by
  unfold Obligations.EveryCommandAnswersOnce
  intro s w rest hev
  obtain ⟨t, d, hstep, ⟨hresp, hevents, _⟩, _⟩ := step_endsIn hev
  exact ⟨t, wordStatus s w, d, hstep, hresp, hevents, status_code_mem _⟩

/-! ## The statuses of each command -/

theorem possibleStatuses_of_undefined {op : Byte} (h : op ∉ definedOpcodes) :
    possibleStatuses op = [.error .eIllegal] := by
  obtain ⟨h01, h10, h11, h12, h20, h21, h30, h31, h32, h40⟩ := (not_mem_definedOpcodes_iff op).mp h
  rw [possibleStatuses, if_neg h01, if_neg h10, if_neg h11, if_neg h12, if_neg h20, if_neg h21, if_neg h30, if_neg h31,
    if_neg h32, if_neg h40]

theorem eOperand_mem_possibleStatuses {op : Byte} {arg : Word} (h : OperandIllegal op arg) :
    .error .eOperand ∈ possibleStatuses op :=
  (by decide : ∀ b ∈ checkedOpcodes, .error .eOperand ∈ possibleStatuses b) op h.checked

theorem guardedStatus_mem {flag : Bool} {e : ErrStatus} {st : Status} {sts : List Status} (he : .error e ∈ sts)
    (hst : st ∈ sts) : guardedStatus flag e st ∈ sts := by
  cases flag with
  | false => exact he
  | true => exact hst

theorem lookupStatus_mem {missed : Status} {k : Option (Fin 35)} {sts : List Status} (hok : .ok ∈ sts)
    (hmissed : missed ∈ sts) : lookupStatus missed k ∈ sts := by
  cases k with
  | none => exact hmissed
  | some k => exact hok

theorem csrStatus_mem (s : State) (n : BitVec 2) : csrStatus s n ∈ possibleStatuses 0x01#8 := by
  unfold csrStatus
  split
  · exact guardedStatus_mem (by decide) (by decide)
  · split <;> decide

/-- No command ends in a status that its row of the table does not list. -/
theorem endStatus_mem_possibleStatuses (s : State) (i : Instr) : endStatus s i ∈ possibleStatuses i.opcode := by
  cases i with
  | rdcsr n => exact csrStatus_mem s n
  | hinit => exact (by decide : .ok ∈ possibleStatuses 0x10#8)
  | hbyte b => exact guardedStatus_mem (sts := possibleStatuses 0x11#8) (by decide) (by decide)
  | hfin => exact guardedStatus_mem (by decide) (by decide)
  | mtseed w => exact (by decide : .ok ∈ possibleStatuses 0x20#8)
  | mtnext => exact guardedStatus_mem (by decide) (by decide)
  | gbuild => exact guardedStatus_mem (by decide) (by decide)
  | symat row col => exact lookupStatus_mem (sts := possibleStatuses 0x31#8) (by decide) (by decide)
  | codefor u =>
    exact guardedStatus_mem (sts := possibleStatuses 0x32#8) (by decide) (lookupStatus_mem (by decide) (by decide))
  | xlate u =>
    exact guardedStatus_mem (sts := possibleStatuses 0x40#8) (by decide) (lookupStatus_mem (by decide) (by decide))

theorem wordStatus_mem_possibleStatuses (s : State) (w : Cmd) : wordStatus s w ∈ possibleStatuses (opField w) := by
  obtain ⟨h, hd⟩ | ⟨h, hd⟩ | ⟨i, rfl, hd⟩ := decode_cases w
  · rw [wordStatus_of_error hd, possibleStatuses_of_undefined h]
    exact List.mem_singleton_self _
  · rw [wordStatus_of_error hd]
    exact eOperand_mem_possibleStatuses h
  · rw [wordStatus_of_ok hd, opField_encode]
    exact endStatus_mem_possibleStatuses s i

/-- The reset state with a message open. -/
def messageState : State := { State.reset with hopen := true }

/-- The reset state with the prerequisites of the other commands met. -/
def gridState : State := { State.reset with seedValid := true, mtValid := true, gridValid := true }

/-- For each entry of the table of R183 a state and a word, row by row: the word of a result, of an illegal operand
where the format has one, of an unmet prerequisite where the command has one. -/
def statusExamples : List (State × Cmd) :=
  [(State.reset, 0x0100000000#40), (State.reset, 0x0100000003#40), (State.reset, 0x0100000001#40),
    (State.reset, 0x1000000000#40), (State.reset, 0x1000000001#40),
    (messageState, 0x1100000000#40), (State.reset, 0x1100000100#40), (State.reset, 0x1100000000#40),
    (messageState, 0x1200000000#40), (State.reset, 0x1200000001#40), (State.reset, 0x1200000000#40),
    (State.reset, 0x2000000000#40),
    (gridState, 0x2100000000#40), (State.reset, 0x2100000001#40), (State.reset, 0x2100000000#40),
    (gridState, 0x3000000000#40), (State.reset, 0x3000000001#40), (State.reset, 0x3000000000#40),
    (State.reset, 0x3100000000#40), (State.reset, 0x3100070000#40),
    (gridState, 0x3200000041#40), (gridState, 0x3200000061#40), (State.reset, 0x3200000041#40),
    (gridState, 0x4000000061#40), (gridState, 0x4000000020#40), (State.reset, 0x4000000061#40)]

theorem statusExamples_cover :
    ∀ op ∈ definedOpcodes, ∀ st ∈ possibleStatuses op,
      ∃ x ∈ statusExamples, opField x.2 = op ∧ wordStatus x.1 x.2 = st := by decide

/-- Every entry of the table is the status of some word in some state. -/
theorem exists_wordStatus_eq {op : Byte} {st : Status} (h : st ∈ possibleStatuses op) :
    ∃ s w, opField w = op ∧ wordStatus s w = st := by
  by_cases hop : op ∈ definedOpcodes
  · obtain ⟨⟨s, w⟩, _, hw⟩ := statusExamples_cover op hop st h
    exact ⟨s, w, hw⟩
  · rw [possibleStatuses_of_undefined hop, List.mem_singleton] at h
    have hfield : opField (op ++ 0#32) = op := opField_append op 0#32
    refine ⟨State.reset, op ++ 0#32, hfield, ?_⟩
    rw [h, wordStatus_of_error (decode_of_undefined (hfield.symm ▸ hop)), decodeErrStatus]

/-- Settles O9: the statuses of a byte's words are the entries of its row, and the status of a step is that of its
word. -/
theorem statusesOfEachCommand : Obligations.StatusesOfEachCommand := by
  unfold Obligations.StatusesOfEachCommand
  refine fun op st => ⟨fun h => ?_, fun ⟨s, t, w, rest, d, hop, hev, ht, hr⟩ => ?_⟩
  · obtain ⟨s, w, hop, rfl⟩ := exists_wordStatus_eq h
    have hev : (s.withEvents [.command w]).events = .command w :: [] := rfl
    obtain ⟨t, d, hstep, ⟨hresp, _⟩, _⟩ := step_endsIn hev
    rw [wordStatus_withEvents] at hresp
    exact ⟨_, t, w, [], d, hop, hev, hstep, hresp⟩
  · obtain ⟨rfl, _⟩ := step_response_eq hev ht hr
    exact hop ▸ wordStatus_mem_possibleStatuses s w

end Sys2Proof.Machine

/-! PROOFS. Reset and hazards (spec/70_reset_and_hazards.md): states that differ only in elements no rule gives a value
answer alike and stay so, which makes the responses independent of what a reset leaves unspecified (O18); and the life
of the four valid flags (O19). -/

namespace Sys2Proof.Machine

/-! ## States that answer alike -/

/-- Both hash kernels have absorbed the same bytes of a message, whatever stands in their buffers behind those bytes. -/
def SameMessage (s s' : State) : Prop := ∃ q bs, Absorbed q bs s ∧ Absorbed q bs s' ∧ s'.hlen = s.hlen

/-- The states agree in the flags, the error record and the events, and in each unit as far as its flag vouches for it:
the message while it is open, the seed, the twister and the code table while they are valid (R45). -/
structure Alike (s s' : State) : Prop where
  events : s'.events = s.events
  hopen : s'.hopen = s.hopen
  seedValid : s'.seedValid = s.seedValid
  mtValid : s'.mtValid = s.mtValid
  gridValid : s'.gridValid = s.gridValid
  err : SameErr s s'
  message : s.hopen = true → SameMessage s s'
  seed : s.seedValid = true → s'.seed = s.seed
  twister : s.mtValid = true → SameTwister s s'
  ct : s.gridValid = true → s'.ct = s.ct

/-- A reset clears every flag, so nothing vouches for the contents it leaves (R201). -/
theorem alike_resetWith (c c' : ResetContents) {s s' : State} (h : s'.events = s.events) :
    Alike (resetWith c s) (resetWith c' s') where
  events := h
  hopen := rfl
  seedValid := rfl
  mtValid := rfl
  gridValid := rfl
  err := ⟨rfl, rfl, rfl⟩
  message := fun hf => Bool.noConfusion hf
  seed := fun hf => Bool.noConfusion hf
  twister := fun hf => Bool.noConfusion hf
  ct := fun hf => Bool.noConfusion hf

/-! ## The same message -/

theorem Absorbed.of_sameHash {q : Md5Chain} {bs : List Byte} {s t : State} (h : Absorbed q bs s)
    (hs : SameHash s t) : Absorbed q bs t := by
  obtain ⟨ha, hb, hc, hd, hbuf, hfill, _, _⟩ := hs
  refine ⟨?_, ?_, ?_⟩
  · rw [hfill]
    exact h.fill
  · rw [hbuf]
    exact h.buffer
  · rw [← h.chain, State.chain, ha, hb, hc, hd, State.chain]

section
variable {s s' : State}

theorem SameMessage.hfill_eq (h : SameMessage s s') : s'.hfill = s.hfill := by
  obtain ⟨_, _, hs, hs', _⟩ := h
  exact BitVec.eq_of_toNat_eq (hs'.fill.trans hs.fill.symm)

theorem SameMessage.chain_eq (h : SameMessage s s') : s'.chain = s.chain := by
  obtain ⟨_, _, hs, hs', _⟩ := h
  exact hs'.chain.trans hs.chain.symm

theorem SameMessage.of_sameHash {t t' : State} (h : SameMessage s s') (ht : SameHash s t) (ht' : SameHash s' t') :
    SameMessage t t' := by
  obtain ⟨q, bs, hs, hs', hlen⟩ := h
  refine ⟨q, bs, hs.of_sameHash ht, hs'.of_sameHash ht', ?_⟩
  obtain ⟨_, _, _, _, _, _, htlen, _⟩ := ht
  obtain ⟨_, _, _, _, _, _, htlen', _⟩ := ht'
  rw [htlen', htlen, hlen]

theorem SameMessage.absorb (h : SameMessage s s') (x : Byte) : SameMessage (absorb s x) (absorb s' x) := by
  obtain ⟨q, bs, hs, hs', hlen⟩ := h
  refine ⟨q, bs ++ [x], hs.absorb x, hs'.absorb x, ?_⟩
  rw [(absorb_only s x).hlen, (absorb_only s' x).hlen, hlen]

theorem SameMessage.countByte (h : SameMessage s s') : SameMessage (countByte s) (countByte s') := by
  obtain ⟨q, bs, hs, hs', hlen⟩ := h
  exact ⟨q, bs, hs.countByte, hs'.countByte, congrArg (· + 1#64) hlen⟩

/-- Fill and length determine the bytes of the padding (R108). -/
theorem SameMessage.finalPad (h : SameMessage s s') : SameMessage (finalPad s) (finalPad s') := by
  have hfill := h.hfill_eq
  obtain ⟨q, bs, hs, hs', hlen⟩ := h
  have hpad' := hs'.finalPad
  rw [hfill, hlen] at hpad'
  refine ⟨q, _, hs.finalPad, hpad', ?_⟩
  rw [(finalPad_only s).hlen, (finalPad_only s').hlen, hlen]

/-- `HINIT` opens the empty message over any buffer (R102). -/
theorem sameMessage_openMessage (s s' : State) : SameMessage (openMessage s) (openMessage s') :=
  have hempty (t : State) : Absorbed md5Init [] (openMessage t) :=
    ⟨rfl, fun _ _ h => absurd h (Nat.not_lt_zero _), rfl⟩
  ⟨md5Init, [], hempty s, hempty s', rfl⟩

end

/-! ## The same extraction, the same grid -/

theorem SameTwister.extractArray_eq {s s' : State} (h : SameTwister s s') : extractArray s' = extractArray s := by
  obtain ⟨hmt, hidx, _⟩ := h
  rw [extractArray, extractArray, hmt, hidx]

theorem SameTwister.extractWord_eq {s s' : State} (h : SameTwister s s') : extractWord s' = extractWord s := by
  have harray := h.extractArray_eq
  obtain ⟨_, hidx, _⟩ := h
  rw [extractWord, extractWord, harray, hidx]

theorem SameTwister.extractNext {s s' : State} (h : SameTwister s s') :
    SameTwister (extractNext s) (extractNext s') := by
  have harray := h.extractArray_eq
  obtain ⟨_, hidx, hv⟩ := h
  exact ⟨harray, congrArg nextIdx hidx, hv⟩

/-- The 140 draws determine the whole code table, whatever was in it (R141). -/
theorem DrawnFrom.ct_unique {ca : CodeAlphabet} {w : Word} {s s' : State} (h : DrawnFrom ca w 140 s)
    (h' : DrawnFrom ca w 140 s') : s'.ct = s.ct := by
  refine Vector.ext fun k hk => Vector.ext fun j hj => ?_
  have hlt : 4 * k + j < 140 := by omega
  exact (h'.chars ⟨k, hk⟩ ⟨j, hj⟩ hlt).trans (h.chars ⟨k, hk⟩ ⟨j, hj⟩ hlt).symm

theorem DrawnFrom.twister_unique {ca : CodeAlphabet} {w : Word} {s s' : State} (h : DrawnFrom ca w 140 s)
    (h' : DrawnFrom ca w 140 s') : SameTwister s s' :=
  ⟨h'.mt_eq.trans h.mt_eq.symm, h'.idx_eq.trans h.idx_eq.symm, h'.stream.mtValid.trans h.stream.mtValid.symm⟩

/-! ## The updates of the units -/

section
variable {s s' : State}

theorem Alike.message_of_sameHash {t t' : State} (h : Alike s s') (ht : SameHash s t) (ht' : SameHash s' t') :
    t.hopen = true → SameMessage t t' := by
  have ⟨_, _, _, _, _, _, _, hopen⟩ := ht
  exact fun hv => (h.message (hopen.symm.trans hv)).of_sameHash ht ht'

theorem Alike.withEvents (h : Alike s s') (evs : List HostEvent) : Alike (s.withEvents evs) (s'.withEvents evs) :=
  { h with
    events := rfl
    message := h.message_of_sameHash (SameHash.refl s) (SameHash.refl s') }

theorem Alike.respond (h : Alike s s') (st : Status) (d : Word) : Alike (respond s st d) (respond s' st d) :=
  { h with message := h.message_of_sameHash (SameHash.refl s) (SameHash.refl s') }

/-- The error record depends on itself and on the error alone (R185). -/
theorem Alike.raise (h : Alike s s') (e : ErrStatus) (op : Byte) : Alike (raise s e op) (raise s' e op) := by
  obtain ⟨herr, hcode, hop⟩ := h.err
  refine { h with
    err := ⟨rfl, ?_, ?_⟩
    message := h.message_of_sameHash (SameHash.refl s) (SameHash.refl s') }
  · rw [raise_errCode, raise_errCode, herr, hcode]
  · rw [raise_errOp, raise_errOp, herr, hop]

theorem Alike.openMessage (h : Alike s s') : Alike (openMessage s) (openMessage s') :=
  { h with
    hopen := rfl
    seedValid := rfl
    message := fun _ => sameMessage_openMessage s s'
    seed := fun hf => Bool.noConfusion hf }

/-- Work on the message alone keeps states alike if it keeps the message the same. -/
theorem Alike.onlyBlock {t t' : State} (h : Alike s s') (ht : OnlyBlock s t) (ht' : OnlyBlock s' t')
    (hm : s.hopen = true → SameMessage t t') : Alike t t' := by
  obtain ⟨⟨hmt, hidx, hmv⟩, _, hopen, ⟨hseed, hsv⟩, ⟨hct, hgv⟩, ⟨herr, hcode, hop⟩, _, hev, _⟩ := ht
  obtain ⟨⟨hmt', hidx', hmv'⟩, _, hopen', ⟨hseed', hsv'⟩, ⟨hct', hgv'⟩, ⟨herr', hcode', hop'⟩, _, hev', _⟩ := ht'
  exact {
    events := by rw [hev', hev, h.events]
    hopen := by rw [hopen', hopen, h.hopen]
    seedValid := by rw [hsv', hsv, h.seedValid]
    mtValid := by rw [hmv', hmv, h.mtValid]
    gridValid := by rw [hgv', hgv, h.gridValid]
    err := by simpa only [SameErr, herr, hcode, hop, herr', hcode', hop'] using h.err
    message := fun ho => hm (hopen.symm.trans ho)
    seed := by simpa only [hsv, hseed, hseed'] using h.seed
    twister := by simpa only [SameTwister, hmt, hidx, hmv, hmt', hidx', hmv'] using h.twister
    ct := by simpa only [hgv, hct, hct'] using h.ct }

theorem Alike.absorb (h : Alike s s') (x : Byte) : Alike (absorb s x) (absorb s' x) :=
  h.onlyBlock (absorb_only s x) (absorb_only s' x) (fun hopen => (h.message hopen).absorb x)

theorem Alike.finalPad (h : Alike s s') : Alike (finalPad s) (finalPad s') :=
  h.onlyBlock (finalPad_only s) (finalPad_only s') (fun hopen => (h.message hopen).finalPad)

theorem Alike.countByte (h : Alike s s') : Alike (countByte s) (countByte s') :=
  { h with message := fun hopen => (h.message hopen).countByte }

theorem Alike.ha_eq (h : Alike s s') (hopen : s.hopen = true) : s'.ha = s.ha := by
  rw [State.ha_eq_chain, State.ha_eq_chain, (h.message hopen).chain_eq]

/-- The word `HFIN` answers is the padded chain's, which the message determines (R108). -/
theorem Alike.finalPad_ha (h : Alike s s') (hopen : s.hopen = true) :
    (Machine.finalPad s').ha = (Machine.finalPad s).ha :=
  h.finalPad.ha_eq ((finalPad_only s).hopen.trans hopen)

theorem Alike.takeSeed (h : Alike s s') (hopen : s.hopen = true) : Alike (takeSeed s) (takeSeed s') :=
  { h with
    hopen := rfl
    seedValid := rfl
    message := fun hf => Bool.noConfusion hf
    seed := fun _ => h.ha_eq hopen }

theorem Alike.seedTwister (h : Alike s s') (w : Word) : Alike (seedTwister s w) (seedTwister s' w) :=
  { h with
    mtValid := rfl
    message := h.message_of_sameHash (SameHash.refl s) (SameHash.refl s')
    twister := fun _ => ⟨rfl, rfl, rfl⟩ }

theorem Alike.extractNext (h : Alike s s') : Alike (extractNext s) (extractNext s') :=
  { h with
    message := h.message_of_sameHash (SameHash.refl s) (SameHash.refl s')
    twister := fun hv => (h.twister hv).extractNext }

theorem Alike.buildGrid (h : Alike s s') (hseed : s.seedValid = true) :
    Alike (buildGrid Config.codeAlphabet s) (buildGrid Config.codeAlphabet s') := by
  have hdrawn := buildGrid_drawnFrom Config.codeAlphabet s
  have hdrawn' := buildGrid_drawnFrom Config.codeAlphabet s'
  rw [h.seed hseed] at hdrawn'
  obtain ⟨hhash, ⟨hsd, hsv⟩, ⟨herr, hcode, hop⟩, hmt, hgrid, _, hev, _⟩ := buildGrid_frame Config.codeAlphabet s
  obtain ⟨hhash', ⟨hsd', hsv'⟩, ⟨herr', hcode', hop'⟩, hmt', hgrid', _, hev', _⟩ :=
    buildGrid_frame Config.codeAlphabet s'
  have ⟨_, _, _, _, _, _, _, hopen⟩ := hhash
  have ⟨_, _, _, _, _, _, _, hopen'⟩ := hhash'
  exact {
    events := by rw [hev', hev, h.events]
    hopen := by rw [hopen', hopen, h.hopen]
    seedValid := by rw [hsv', hsv, h.seedValid]
    mtValid := by rw [hmt', hmt]
    gridValid := by rw [hgrid', hgrid]
    err := by simpa only [SameErr, herr, hcode, hop, herr', hcode', hop'] using h.err
    message := h.message_of_sameHash hhash hhash'
    seed := by simpa only [hsv, hsd, hsd'] using h.seed
    twister := fun _ => hdrawn.twister_unique hdrawn'
    ct := fun _ => hdrawn.ct_unique hdrawn' }

/-- Each update reads a unit under the prerequisite that vouches for it, so it keeps states alike. -/
theorem Alike.unitUpdate {i : Instr} {u u' : State} (h : Alike s s') (hu : UnitUpdate i s u)
    (hu' : UnitUpdate i s' u') : Alike u u' := by
  cases hu with
  | hinit => cases hu'; exact h.openMessage
  | hbyte b => cases hu'; exact (h.absorb b).countByte
  | hfin hopen => cases hu'; exact h.finalPad.takeSeed ((finalPad_only s).hopen.trans hopen)
  | mtseed w => cases hu'; exact h.seedTwister w
  | mtnext => cases hu'; exact h.extractNext
  | gbuild hseed => cases hu'; exact h.buildGrid hseed
  | rdcsr | symat | codefor | xlate => cases hu'; exact h

end

/-! ## The same answers -/

/-- From `s` and `s'` the two outcomes are states that are alike again, with the same responses added. -/
def AnswersAlike (s s' : State) (o o' : Host.Outcome State Fault Refusal) : Prop :=
  ∃ t t' rs, o = .next t ∧ o' = .next t' ∧ Alike t t' ∧
    t.responses = s.responses ++ rs ∧ t'.responses = s'.responses ++ rs

section
variable {s s' : State}

theorem answersAlike_of_same_responses {t t' : State} (h : Alike t t') (hr : t.responses = s.responses)
    (hr' : t'.responses = s'.responses) : AnswersAlike s s' (.next t) (.next t') :=
  ⟨t, t', [], rfl, rfl, h, by simp [hr], by simp [hr']⟩

theorem Alike.answersAlike_raise (h : Alike s s') (e : ErrStatus) (op : Byte) :
    AnswersAlike s s' (.next (Machine.raise s e op)) (.next (Machine.raise s' e op)) :=
  ⟨_, _, _, rfl, rfl, h.raise e op, raise_responses s e op, raise_responses s' e op⟩

section
variable {i : Instr}

theorem Alike.exec_of_raise {e : ErrStatus} {op : Byte} (h : Alike s s') (hx : exec i s = .next (Machine.raise s e op))
    (hx' : exec i s' = .next (Machine.raise s' e op)) : AnswersAlike s s' (exec i s) (exec i s') := by
  rw [hx, hx']
  exact h.answersAlike_raise e op

theorem Alike.exec_of_respond {u u' : State} {st : Status} {d d' : Word} (h : Alike s s')
    (hx : exec i s = .next (Machine.respond u st d)) (hx' : exec i s' = .next (Machine.respond u' st d'))
    (hu : UnitUpdate i s u) (hu' : UnitUpdate i s' u') (hd : d' = d) :
    AnswersAlike s s' (exec i s) (exec i s') := by
  subst hd
  obtain ⟨hr, _⟩ := hu.answered st d'
  obtain ⟨hr', _⟩ := hu'.answered st d'
  rw [hx, hx']
  exact ⟨_, _, _, rfl, rfl, (h.unitUpdate hu hu').respond st d', hr, hr'⟩

end

theorem Alike.statusWord_eq (h : Alike s s') : statusWord s' = statusWord s := by
  obtain ⟨herr, _⟩ := h.err
  rw [statusWord, statusWord, herr, h.gridValid, h.mtValid, h.seedValid, h.hopen]

theorem Alike.errInfoWord_eq (h : Alike s s') : errInfoWord s' = errInfoWord s := by
  obtain ⟨_, hcode, hop⟩ := h.err
  rw [errInfoWord, errInfoWord, hcode, hop]

theorem Alike.exec_rdcsr (h : Alike s s') (n : BitVec 2) :
    AnswersAlike s s' (exec (.rdcsr n) s) (exec (.rdcsr n) s') := by
  obtain rfl | rfl | rfl | rfl := csrNumber_cases n
  · exact h.exec_of_respond (exec_rdcsr_status s) (exec_rdcsr_status s') (.rdcsr _ s) (.rdcsr _ s') h.statusWord_eq
  · cases hv : s.seedValid with
    | true =>
      exact h.exec_of_respond (exec_rdcsr_seed hv) (exec_rdcsr_seed (h.seedValid.trans hv)) (.rdcsr _ s) (.rdcsr _ s')
        (h.seed hv)
    | false => exact h.exec_of_raise (exec_rdcsr_noSeed hv) (exec_rdcsr_noSeed (h.seedValid.trans hv))
  · exact h.exec_of_respond (exec_rdcsr_errInfo s) (exec_rdcsr_errInfo s') (.rdcsr _ s) (.rdcsr _ s') h.errInfoWord_eq
  · exact h.exec_of_raise (exec_rdcsr_absent s) (exec_rdcsr_absent s')

theorem Alike.exec_symat (h : Alike s s') (row col : BitVec 16) :
    AnswersAlike s s' (exec (.symat row col) s) (exec (.symat row col) s') := by
  cases hk : cellIndex row col with
  | some k => exact h.exec_of_respond (exec_symat_some hk s) (exec_symat_some hk s') (.symat _ _ s) (.symat _ _ s') rfl
  | none => exact h.exec_of_respond (exec_symat_none hk s) (exec_symat_none hk s') (.symat _ _ s) (.symat _ _ s') rfl

theorem Alike.exec_codefor (h : Alike s s') (u : Word) :
    AnswersAlike s s' (exec (.codefor u) s) (exec (.codefor u) s') := by
  cases hg : s.gridValid with
  | false => exact h.exec_of_raise (exec_codefor_noGrid hg u) (exec_codefor_noGrid (h.gridValid.trans hg) u)
  | true =>
    have hg' := h.gridValid.trans hg
    cases hk : symIndex u with
    | some k =>
      exact h.exec_of_respond (exec_codefor_some hg hk) (exec_codefor_some hg' hk) (.codefor u hg) (.codefor u hg')
        (by rw [h.ct hg])
    | none =>
      exact h.exec_of_respond (exec_codefor_none hg hk) (exec_codefor_none hg' hk) (.codefor u hg) (.codefor u hg') rfl

theorem Alike.exec_xlate (h : Alike s s') (u : Word) :
    AnswersAlike s s' (exec (.xlate u) s) (exec (.xlate u) s') := by
  cases hg : s.gridValid with
  | false => exact h.exec_of_raise (exec_xlate_noGrid hg u) (exec_xlate_noGrid (h.gridValid.trans hg) u)
  | true =>
    have hg' := h.gridValid.trans hg
    cases hk : symIndex (upcase u) with
    | some k =>
      exact h.exec_of_respond (exec_xlate_some hg hk) (exec_xlate_some hg' hk) (.xlate u hg) (.xlate u hg')
        (by rw [h.ct hg])
    | none => exact h.exec_of_respond (exec_xlate_none hg hk) (exec_xlate_none hg' hk) (.xlate u hg) (.xlate u hg') rfl

/-- Every command answers alike: its prerequisite fails in both states, or what it reads is vouched for in both. -/
theorem Alike.exec (h : Alike s s') (i : Instr) : AnswersAlike s s' (exec i s) (exec i s') := by
  cases i with
  | rdcsr n => exact h.exec_rdcsr n
  | hinit => exact h.exec_of_respond (exec_hinit s) (exec_hinit s') (.hinit s) (.hinit s') rfl
  | hbyte b =>
    cases ho : s.hopen with
    | true =>
      have ho' := h.hopen.trans ho
      exact h.exec_of_respond (exec_hbyte_open ho b) (exec_hbyte_open ho' b) (.hbyte b ho) (.hbyte b ho') rfl
    | false => exact h.exec_of_raise (exec_hbyte_closed ho b) (exec_hbyte_closed (h.hopen.trans ho) b)
  | hfin =>
    cases ho : s.hopen with
    | true =>
      have ho' := h.hopen.trans ho
      exact h.exec_of_respond (exec_hfin_open ho) (exec_hfin_open ho') (.hfin ho) (.hfin ho') (h.finalPad_ha ho)
    | false => exact h.exec_of_raise (exec_hfin_closed ho) (exec_hfin_closed (h.hopen.trans ho))
  | mtseed w => exact h.exec_of_respond (exec_mtseed w s) (exec_mtseed w s') (.mtseed w s) (.mtseed w s') rfl
  | mtnext =>
    cases hv : s.mtValid with
    | true =>
      have hv' := h.mtValid.trans hv
      exact h.exec_of_respond (exec_mtnext_seeded hv) (exec_mtnext_seeded hv') (.mtnext hv) (.mtnext hv')
        (h.twister hv).extractWord_eq
    | false => exact h.exec_of_raise (exec_mtnext_unseeded hv) (exec_mtnext_unseeded (h.mtValid.trans hv))
  | gbuild =>
    cases hv : s.seedValid with
    | true =>
      have hv' := h.seedValid.trans hv
      exact h.exec_of_respond (exec_gbuild_seeded hv) (exec_gbuild_seeded hv') (.gbuild hv) (.gbuild hv') rfl
    | false => exact h.exec_of_raise (exec_gbuild_unseeded hv) (exec_gbuild_unseeded (h.seedValid.trans hv))
  | symat row col => exact h.exec_symat row col
  | codefor u => exact h.exec_codefor u
  | xlate u => exact h.exec_xlate u

theorem Alike.stepCommand (h : Alike s s') (w : Cmd) :
    AnswersAlike s s' (stepCommand w s) (stepCommand w s') := by
  cases hd : decode w with
  | ok i =>
    rw [stepCommand_ok hd, stepCommand_ok hd]
    exact h.exec i
  | error e =>
    rw [stepCommand_error hd, stepCommand_error hd]
    cases e with
    | illegal op => exact h.answersAlike_raise .eIllegal op
    | operand op => exact h.answersAlike_raise .eOperand op

/-- A reset brings any two states together that present the same events, whatever each leaves behind (R200, R201). -/
theorem answersAlike_applyReset (hev : s'.events = s.events) :
    AnswersAlike s s' (.next (applyReset s)) (.next (applyReset s')) :=
  answersAlike_of_same_responses (alike_resetWith _ _ hev) rfl rfl

theorem Alike.step (h : Alike s s') : AnswersAlike s s' (step s) (step s') := by
  match hev : s.events with
  | [] =>
    rw [step_idle hev, step_idle (h.events.trans hev)]
    exact answersAlike_of_same_responses h rfl rfl
  | .command w :: rest =>
    rw [step_command hev, step_command (h.events.trans hev)]
    exact (h.withEvents rest).stepCommand w
  | .reset :: rest =>
    rw [step_reset hev, step_reset (h.events.trans hev)]
    exact answersAlike_applyReset (s := s.withEvents rest) (s' := s'.withEvents rest) rfl
  | .abandoned w :: rest =>
    rw [step_abandoned hev, step_abandoned (h.events.trans hev)]
    exact answersAlike_applyReset (s := s.withEvents rest) (s' := s'.withEvents rest) rfl

theorem Alike.run (h : Alike s s') (n : Nat) : AnswersAlike s s' (run n s) (run n s') := by
  induction n generalizing s s' with
  | zero => exact answersAlike_of_same_responses h rfl rfl
  | succ n ih =>
    obtain ⟨t, t', rs, ht, ht', hstep, hr, hr'⟩ := h.step
    obtain ⟨u, u', rs', hu, hu', halike, hru, hru'⟩ := ih hstep
    rw [run_succ_of_step n ht, run_succ_of_step n ht']
    refine ⟨u, u', rs ++ rs', hu, hu', halike, ?_, ?_⟩
    · rw [hru, hr, List.append_assoc]
    · rw [hru', hr', List.append_assoc]

end

/-- Settles O18: two resets leave states that are alike, and alike states answer alike at every step. -/
theorem responsesIgnoreResetContents : Obligations.ResponsesIgnoreResetContents := by
  unfold Obligations.ResponsesIgnoreResetContents
  intro c c' s s' evs n
  have hstart : Alike ((resetWith c s).withEvents evs) ((resetWith c' s').withEvents evs) :=
    alike_resetWith c c' (s := s.withEvents evs) (s' := s'.withEvents evs) rfl
  obtain ⟨t, t', rs, ht, ht', _, hr, hr'⟩ := hstart.run n
  exact ⟨t, t', rs, ht, ht', hr, hr'⟩

/-! ## The valid flags -/

/-- The four valid flags and the code table are unchanged. -/
def FlagsKept (s t : State) : Prop :=
  t.hopen = s.hopen ∧ t.seedValid = s.seedValid ∧ t.mtValid = s.mtValid ∧ SameGrid s t

theorem FlagsKept.trans {s t u : State} (h : FlagsKept s t) (g : FlagsKept t u) : FlagsKept s u := by
  obtain ⟨hopen, hsv, hmv, hgrid⟩ := h
  obtain ⟨gopen, gsv, gmv, ggrid⟩ := g
  exact ⟨gopen.trans hopen, gsv.trans hsv, gmv.trans hmv, hgrid.trans ggrid⟩

theorem respond_flagsKept (s : State) (st : Status) (d : Word) : FlagsKept s (respond s st d) :=
  ⟨rfl, rfl, rfl, rfl, rfl⟩

theorem raise_flagsKept (s : State) (e : ErrStatus) (op : Byte) : FlagsKept s (raise s e op) :=
  ⟨rfl, rfl, rfl, rfl, rfl⟩

theorem countByte_flagsKept (s : State) : FlagsKept s (countByte s) := ⟨rfl, rfl, rfl, rfl, rfl⟩

theorem OnlyBlock.flagsKept {s t : State} (h : OnlyBlock s t) : FlagsKept s t := by
  obtain ⟨⟨_, _, hmv⟩, _, hopen, ⟨_, hsv⟩, hgrid, _⟩ := h
  exact ⟨hopen, hsv, hmv, hgrid⟩

/-- `GBUILD` sets two of the flags; its prerequisite, a derived seed, gives the other two (R39 item 6). -/
theorem buildGrid_flags {s : State} (hexcl : OpenExcludesSeed s) (hseed : s.seedValid = true) (ca : CodeAlphabet) :
    (buildGrid ca s).hopen = false ∧ (buildGrid ca s).seedValid = true ∧ (buildGrid ca s).mtValid = true ∧
      (buildGrid ca s).gridValid = true := by
  obtain ⟨hhash, ⟨_, hsv⟩, _, hmv, hgv, _⟩ := buildGrid_frame ca s
  obtain ⟨_, _, _, _, _, _, _, hopen⟩ := hhash
  have hclosed : s.hopen = false := Bool.eq_false_iff.mpr fun h => Bool.noConfusion (hseed.symm.trans (hexcl h))
  exact ⟨hopen.trans hclosed, hsv.trans hseed, hmv, hgv⟩

section
variable {i : Instr} {s t : State} {d : Word}

theorem Answered.response_unique {r r' : Response} (h : Answered s t [r]) (hr : t.responses = s.responses ++ [r']) :
    r = r' := by
  obtain ⟨hans, _⟩ := h
  simpa using hans.symm.trans hr

/-- A command that answers an error has raised it. -/
theorem eq_raise_of_error_response {e : ErrStatus} (ht : exec i s = .next t)
    (hr : t.responses = s.responses ++ [⟨.error e, d⟩]) : t = raise s e i.opcode := by
  obtain ⟨t', d', hx, hans, hraise⟩ := exec_endsIn i s
  obtain rfl := Host.Outcome.next.inj (hx.symm.trans ht)
  exact hraise e (congrArg Response.status (hans.response_unique hr))

/-- A command that answers a result has made the update of its units, and the response moves no flag. -/
theorem unitUpdate_of_result_response {st : Status} (ht : exec i s = .next t)
    (hr : t.responses = s.responses ++ [⟨st, d⟩]) (hst : st.isError = false) :
    ∃ u, UnitUpdate i s u ∧ FlagsKept u t := by
  obtain ⟨e, he⟩ | ⟨u, st', d', hu, _, he⟩ := exec_cases i s
  · obtain rfl := Host.Outcome.next.inj (he.symm.trans ht)
    obtain ⟨_, _, _, _, hans⟩ := raise_raised s e i.opcode
    have hstatus : Status.error e = st := congrArg Response.status (hans.response_unique hr)
    exact absurd (hstatus ▸ hst) Bool.noConfusion
  · obtain rfl := Host.Outcome.next.inj (he.symm.trans ht)
    exact ⟨u, hu, respond_flagsKept u st' d'⟩

end

/-- Settles O19: a reset clears the flags, an error touches none, and a result is one of the updates of the units;
that an open message excludes a seed (R39 item 6) gives the flags that `HBYTE` and `GBUILD` leave as they were. -/
theorem flagLife : Obligations.FlagLife := by
  unfold Obligations.FlagLife
  refine ⟨fun c s => ⟨rfl, rfl, rfl, rfl⟩, fun i s t e d ht hr => ?_, fun i s t st d hinv ht hr hst => ?_⟩
  · rw [eq_raise_of_error_response ht hr]
    exact raise_flagsKept s e i.opcode
  · obtain ⟨u, hu, hkept⟩ := unitUpdate_of_result_response ht hr hst
    have ⟨hopen, hseed, hmt, hgrid⟩ := hkept
    cases hu with
    | hinit => exact ⟨hopen, hseed, hmt, hgrid⟩
    | hbyte b ho =>
      obtain ⟨hopen, hseed, hmt, hgrid⟩ := ((absorb_only s b).flagsKept.trans (countByte_flagsKept _)).trans hkept
      exact ⟨hopen.trans ho, hseed.trans (hinv.seed ho), hmt, hgrid⟩
    | hfin =>
      obtain ⟨_, _, hmt', hgrid'⟩ := (finalPad_only s).flagsKept
      exact ⟨hopen.trans (takeSeed_hopen _), hseed.trans (takeSeed_seedValid _),
        hmt.trans ((takeSeed_mtValid _).trans hmt'), (hgrid'.trans (takeSeed_sameGrid _)).trans hgrid⟩
    | mtseed w => exact ⟨hopen, hseed, hmt, hgrid⟩
    | mtnext hv => exact ⟨hopen, hseed, hmt.trans hv, hgrid⟩
    | gbuild hv =>
      obtain ⟨hopen', hseed', hmt', hgv'⟩ := buildGrid_flags hinv.seed hv Config.codeAlphabet
      obtain ⟨_, hgv⟩ := hgrid
      exact ⟨hopen.trans hopen', hseed.trans hseed', hmt.trans hmt', hgv.trans hgv'⟩
    | rdcsr | symat | codefor | xlate => exact hkept

end Sys2Proof.Machine

/-! PROOFS. Command words (spec/30_encoding.md): the encoder is the right inverse of the decoder on commands and its
only preimage (O1), the refusals by name (O2), words and lines written out (O3, O4), and the response word (O57). -/

namespace Sys2Proof.Machine

/-! ## Decoding an encoded command -/

theorem decodeZ_zero (op : Byte) (i : Instr) : decodeZ op 0#32 i = .ok i := if_pos rfl

/-- Format N reads back every register number but 3 (R77). -/
theorem decodeN_append (op : Byte) (mk : BitVec 2 → Instr) {n : BitVec 2} (hn : n ≠ 3#2) :
    decodeN op (0#30 ++ n) mk = .ok (mk n) := by
  have hlt : (0#30 ++ n : Word).toNat < 3 := by revert n; decide
  rw [decodeN, if_pos hlt, extractLsb'_append_low]

/-- Format RC reads back both halves (R76). -/
theorem decodeRC_append (row col : BitVec 16) (mk : BitVec 16 → BitVec 16 → Instr) :
    decodeRC (row ++ col) mk = .ok (mk row col) := by
  rw [decodeRC, extractLsb'_append_high, extractLsb'_append_low]

/-- Each row of the opcode table, by its operand format. -/
theorem decode_encode {i : Instr} (h : i.wf = true) : decode (encode i) = .ok i := by
  cases i with
  | rdcsr n =>
    have hn : n ≠ 3#2 := by simpa [Instr.wf] using h
    simpa [decode, Instr.opcode, Instr.operandWord] using decodeN_append 0x01#8 .rdcsr hn
  | hbyte b => exact decode_encode_hbyte b
  | symat row col => simpa [decode, Instr.opcode, Instr.operandWord] using decodeRC_append row col .symat
  | xlate u => exact decode_encode_xlate u
  | mtseed w => simp [decode, Instr.opcode, Instr.operandWord, decodeW]
  | codefor u => simp [decode, Instr.opcode, Instr.operandWord, decodeW]
  | hinit | hfin | mtnext | gbuild => simp [decode, Instr.opcode, Instr.operandWord, decodeZ_zero]

/-- The one term that is no command encodes to a word the decoder refuses (R77). -/
theorem decode_encode_rdcsr_three : decode (encode (.rdcsr 3#2)) = .error (.operand 0x01#8) := by decide

theorem eq_rdcsr_three_of_not_wf {i : Instr} (h : i.wf = false) : i = .rdcsr 3#2 := by
  cases i with
  | rdcsr n => simpa [Instr.wf] using h
  | _ => exact Bool.noConfusion h

/-- What is read is a command. -/
theorem wf_of_decode_encode {i : Instr} (h : decode (encode i) = .ok i) : i.wf = true := by
  by_contra hwf
  obtain rfl := eq_rdcsr_three_of_not_wf (Bool.eq_false_iff.mpr hwf)
  exact nomatch decode_encode_rdcsr_three.symm.trans h

/-- A word that is read as a command is the encoding of that command: the fields leave no bit of it free. -/
theorem encode_of_decode {w : Cmd} {i : Instr} (h : decode w = .ok i) : encode i = w := by
  obtain ⟨_, hd⟩ | ⟨_, hd⟩ | ⟨j, hj, hd⟩ := decode_cases w
  · exact nomatch hd.symm.trans h
  · exact nomatch hd.symm.trans h
  · obtain rfl := Except.ok.inj (hd.symm.trans h)
    exact hj

/-- Settles O1: a word that is read is the encoding of what is read, and each command is read back. -/
theorem decodeEncodeAgree : Obligations.DecodeEncodeAgree := by
  unfold Obligations.DecodeEncodeAgree
  refine fun i w => ⟨fun h => ?_, fun ⟨hwf, hw⟩ => hw ▸ decode_encode hwf⟩
  obtain rfl := encode_of_decode h
  exact ⟨wf_of_decode_encode h, rfl⟩

/-! ## The refusals -/

theorem not_operandIllegal_of_decode {w : Cmd} {i : Instr} (h : decode w = .ok i) :
    ¬OperandIllegal (opField w) (argField w) := by
  obtain rfl := encode_of_decode h
  rw [opField_encode, argField_encode, operandIllegal_encode_iff]
  rintro rfl
  exact nomatch decode_encode_rdcsr_three.symm.trans h

/-- Settles O2: the three ways a word can read exclude each other. -/
theorem decoderRefusesExactly : Obligations.DecoderRefusesExactly := by
  unfold Obligations.DecoderRefusesExactly
  intro w
  obtain ⟨hop, hd⟩ | ⟨harg, hd⟩ | ⟨i, hi, hd⟩ := decode_cases w
  · have harg : ¬OperandIllegal (opField w) (argField w) := fun h => hop h.defined
    simp [hd, hop, harg]
  · simp [hd, harg, harg.defined]
  · have hop : opField w ∈ definedOpcodes := by
      rw [← hi, opField_encode]
      exact opcode_defined i
    simp [hd, hop, not_operandIllegal_of_decode hd]

/-! ## Words and lines written out -/

/-- Settles O3: each word is decoded. -/
theorem sampleWordsDecode : Obligations.SampleWordsDecode := by
  unfold Obligations.SampleWordsDecode
  decide

/-- Settles O4: each line is assembled. -/
theorem assemblerExamples : Obligations.AssemblerExamples := by
  unfold Obligations.AssemblerExamples
  decide

/-! ## The response word -/

theorem status_code_errorBit (st : Status) : st.code.getLsbD 3 = st.isError := by
  cases st with
  | error e => cases e <;> rfl
  | _ => rfl

/-- Settles O57: the codes are those of the table, and the response word is the code before the data. -/
theorem statusCodesAndResponseWord : Obligations.StatusCodesAndResponseWord := by
  unfold Obligations.StatusCodesAndResponseWord
  refine ⟨⟨rfl, rfl, rfl, rfl, rfl, rfl, rfl, rfl, rfl, rfl⟩, fun r => ?_, status_code_errorBit⟩
  exact ⟨extractLsb'_append_high r.status.code r.data, extractLsb'_append_low r.status.code r.data⟩

end Sys2Proof.Machine

/-! PROOFS. Steps and errors: a step runs the command of its word (O5), the error record keeps the first error (O11) and
disables nothing (O12); resets and idle steps (O13 to O16). -/

namespace Sys2Proof.Machine

/-! ## Steps -/

/-- Taking an event touches nothing but what the host presents. -/
theorem State.withEvents_sameUnits (s : State) (evs : List HostEvent) : SameUnits s (s.withEvents evs) :=
  ⟨SameTwister.refl s, SameHash.refl s, SameSeed.refl s, SameGrid.refl s⟩

theorem State.withEvents_sameErr (s : State) (evs : List HostEvent) : SameErr s (s.withEvents evs) := SameErr.refl s

/-- A bare response changes neither a unit nor the error record. -/
theorem respond_frame (s : State) (st : Status) (d : Word) :
    SameUnits s (respond s st d) ∧ SameErr s (respond s st d) ∧ Answered s (respond s st d) [⟨st, d⟩] :=
  ⟨respond_sameUnits s st d, SameErr.refl s, respond_answered s st d⟩

/-- Settles O5: a word that decodes is executed after its event has been taken. -/
theorem stepRunsDecodedCommand : Obligations.StepRunsDecodedCommand := by
  unfold Obligations.StepRunsDecodedCommand
  intro s w rest i hev hd
  exact ⟨(step_command hev).trans (stepCommand_ok hd _), rfl, s.withEvents_sameUnits rest, s.withEvents_sameErr rest,
    rfl⟩

/-- Settles O15: no event is taken. -/
theorem idleBlockHoldsItsState : Obligations.IdleBlockHoldsItsState := by
  unfold Obligations.IdleBlockHoldsItsState
  exact fun _ => step_idle

/-! ## Reset -/

/-- Settles O13: the values are those of the definition. -/
theorem resetStateValues : Obligations.ResetStateValues := by
  unfold Obligations.ResetStateValues
  exact ⟨rfl, rfl, rfl, rfl, rfl, rfl, rfl, rfl, rfl, rfl⟩

/-- Either reset event has the one reset transition as its step (R200, R202). -/
theorem step_resetEvent {s : State} {w : Cmd} {ev : HostEvent} {rest : List HostEvent}
    (h : ev = .reset ∨ ev = .abandoned w) (hev : s.events = ev :: rest) :
    step s = .next (applyReset (s.withEvents rest)) := by
  obtain rfl | rfl := h
  · exact step_reset hev
  · exact step_abandoned hev

/-- Settles O14: both events are the reset transition, which clears what R201 names and keeps the ports. -/
theorem resetEventEntersResetState : Obligations.ResetEventEntersResetState := by
  unfold Obligations.ResetEventEntersResetState
  intro s w rest ev h hev
  exact ⟨_, step_resetEvent h hev, rfl, rfl, rfl, rfl, rfl, rfl, rfl, rfl, rfl, rfl⟩

/-- Settles O16: the reset state has every flag and the error record clear, as a state after a reset event has. -/
theorem invariantAtReset : Obligations.InvariantAtReset := by
  unfold Obligations.InvariantAtReset
  have h := inv_resetWith State.reset.contents State.reset
  exact ⟨h.cursor, h.fill, h.codes, h.grid, h.record, h.seed⟩

/-! ## The error record -/

theorem countByte_sameErr (s : State) : SameErr s (countByte s) := ⟨rfl, rfl, rfl⟩

theorem takeSeed_sameErr (s : State) : SameErr s (takeSeed s) := ⟨rfl, rfl, rfl⟩

/-- No update of the units touches the error record (R44). -/
theorem UnitUpdate.sameErr {i : Instr} {s u : State} (h : UnitUpdate i s u) : SameErr s u := by
  cases h with
  | hbyte b => exact (absorb_only s b).err.trans (countByte_sameErr _)
  | hfin => exact (finalPad_only s).err.trans (takeSeed_sameErr _)
  | gbuild =>
    obtain ⟨_, _, herr, _⟩ := buildGrid_frame Config.codeAlphabet s
    exact herr
  | hinit | mtseed | mtnext => exact ⟨rfl, rfl, rfl⟩
  | rdcsr | symat | codefor | xlate => exact SameErr.refl s

/-- The outcome raises an error under `op`, or it answers a result status and leaves the error record alone. -/
def RecordsError (o : Host.Outcome State Fault Refusal) (s : State) (op : Byte) : Prop :=
  (∃ e, o = .next (raise s e op)) ∨ ∃ t st d, o = .next t ∧ Answered s t [⟨st, d⟩] ∧ st.isError = false ∧ SameErr s t

theorem exec_recordsError (i : Instr) (s : State) : RecordsError (exec i s) s i.opcode := by
  obtain ⟨e, he⟩ | ⟨u, st, d, hu, hst, he⟩ := exec_cases i s
  · exact .inl ⟨e, he⟩
  · exact .inr ⟨_, st, d, he, hu.answered st d, hst, hu.sameErr.trans (SameErr.refl u)⟩

theorem stepCommand_recordsError (w : Cmd) (s : State) : RecordsError (stepCommand w s) s (opField w) := by
  obtain ⟨_, hd⟩ | ⟨_, hd⟩ | ⟨i, rfl, hd⟩ := decode_cases w
  · exact .inl ⟨.eIllegal, stepCommand_error hd s⟩
  · exact .inl ⟨.eOperand, stepCommand_error hd s⟩
  · rw [stepCommand_ok hd, opField_encode]
    exact exec_recordsError i s

/-- While `ERR` is 1 an error changes nothing of the record (R185). -/
theorem raise_sameErr {s : State} (h : s.err = true) (e : ErrStatus) (op : Byte) : SameErr s (raise s e op) := by
  simp [SameErr, h]

/-- While `ERR` is 0 the error is recorded (R185). -/
theorem raise_record {s : State} (h : s.err = false) (e : ErrStatus) (op : Byte) :
    (raise s e op).err = true ∧ (raise s e op).errCode = e.code ∧ (raise s e op).errOp = op := by
  simp [h]

/-- Settles O11: a word raises an error or leaves the record alone, and its response tells which. -/
theorem errorRecordKeepsFirstError : Obligations.ErrorRecordKeepsFirstError := by
  unfold Obligations.ErrorRecordKeepsFirstError
  intro s t w rest hev ht
  rw [step_command hev] at ht
  obtain ⟨e, he⟩ | ⟨t', st, d, he, hans, hst, hsame⟩ := stepCommand_recordsError w (s.withEvents rest)
  · obtain rfl := Host.Outcome.next.inj (he.symm.trans ht)
    refine ⟨fun herr => raise_sameErr (s := s.withEvents rest) herr e _, fun herr st' d' hr => ?_⟩
    obtain ⟨_, _, _, _, hans⟩ := raise_raised (s.withEvents rest) e (opField w)
    obtain rfl : Status.error e = st' := congrArg Response.status (hans.response_unique hr)
    refine ⟨fun e' he' => ?_, fun hst => Bool.noConfusion hst⟩
    obtain rfl := Status.error.inj he'
    exact raise_record (s := s.withEvents rest) herr e (opField w)
  · obtain rfl := Host.Outcome.next.inj (he.symm.trans ht)
    refine ⟨fun _ => hsame, fun _ st' d' hr => ?_⟩
    obtain rfl : st = st' := congrArg Response.status (hans.response_unique hr)
    refine ⟨fun e' he' => ?_, fun _ => hsame⟩
    rw [he'] at hst
    exact Bool.noConfusion hst

end Sys2Proof.Machine

/-! PROOFS. Twister and grid runs (spec/41_mt19937_generator.md, spec/42_grid_builder.md): consecutive extractions
return the output stream of the seed (O37), and the pseudo-instruction `BUILD` builds the grid of its passphrase
(O40). -/

namespace Sys2Proof.Machine

/-! ## Consecutive extractions -/

/-- Since `s` the host has sent `MTSEED w` and `n` times `MTNEXT`, and has reached `t`. -/
structure StreamDrawn (s : State) (w : Word) (n : Nat) (t : State) : Prop where
  stream : StreamAt w n t
  responses : t.responses = s.responses ++ ⟨.ok, 0#32⟩ :: (List.range n).map (fun k => ⟨.ok, streamWord w k⟩)
  hash : SameHash s t
  seed : SameSeed s t
  grid : SameGrid s t
  err : SameErr s t

theorem streamDrawn_mtseed (s : State) (w : Word) (evs : List HostEvent) :
    StreamDrawn s w 0 (respond (seedTwister (s.withEvents evs) w) .ok 0#32) where
  stream := (streamAt_seedTwister (s.withEvents evs) w).of_sameTwister (SameTwister.refl _)
  responses := rfl
  hash := SameHash.refl s
  seed := SameSeed.refl s
  grid := SameGrid.refl s
  err := SameErr.refl s

theorem StreamDrawn.withEvents {s t : State} {w : Word} {n : Nat} (h : StreamDrawn s w n t) (evs : List HostEvent) :
    StreamDrawn s w n (t.withEvents evs) :=
  ⟨h.stream, h.responses, h.hash, h.seed, h.grid, h.err⟩

/-- The next extraction returns the next word (R127, R128). -/
theorem StreamDrawn.mtnext {s t : State} {w : Word} {n : Nat} (h : StreamDrawn s w n t) :
    StreamDrawn s w (n + 1) (respond (extractNext t) .ok (extractWord t)) where
  stream := h.stream.extractNext.of_sameTwister (SameTwister.refl _)
  responses := by
    rw [respond_responses, extractNext_responses, h.responses, h.stream.extractWord_eq, List.range_succ]
    simp
  hash := h.hash
  seed := h.seed
  grid := h.grid
  err := h.err

theorem StreamDrawn.run_mtnexts {s t : State} {w : Word} {n : Nat} (h : StreamDrawn s w n t) (m : Nat)
    (rest : List HostEvent) (hev : t.events = present (List.replicate m .mtnext) ++ rest) :
    ∃ u, run m t = .next u ∧ StreamDrawn s w (n + m) u ∧ u.events = rest := by
  induction m generalizing n t with
  | zero => exact ⟨t, rfl, h, hev⟩
  | succ m ih =>
    have h' := h.withEvents (present (List.replicate m .mtnext) ++ rest)
    have hstep := run_present_cons (is := List.replicate m .mtnext) m hev (by decide)
      (exec_mtnext_seeded h'.stream.mtValid)
    obtain ⟨u, hrun, hu, hrest⟩ := ih h'.mtnext rfl
    exact ⟨u, hstep.trans hrun, Nat.succ_add_eq_add_succ n m ▸ hu, hrest⟩

/-- Settles O37: seeding starts the stream from any state, and each extraction returns its next word. -/
theorem streamOfConsecutiveExtractions : Obligations.StreamOfConsecutiveExtractions := by
  unfold Obligations.StreamOfConsecutiveExtractions
  intro s w n rest
  have hseed := run_present_cons (s := s.withEvents (present (.mtseed w :: List.replicate (n + 1) .mtnext) ++ rest))
    (n + 1) rfl (decode_encode rfl) (exec_mtseed w _)
  obtain ⟨t, hrun, ht, hev⟩ := (streamDrawn_mtseed s w _).run_mtnexts (n + 1) rest rfl
  rw [Nat.zero_add] at ht
  exact ⟨t, hseed.trans hrun, hev, ht.stream.idx_toNat, ht.stream.mt_of_succ, ht.responses, ht.hash, ht.seed, ht.grid,
    ht.err⟩

/-! ## Building the grid of a passphrase -/

/-- What `GBUILD` does once a seed is derived: it answers `OK`, draws the code table from the stream of the seed, and
keeps the seed, the closed message and the error record (R142, R144). -/
theorem exec_gbuild_drawnFrom {s : State} (hseed : s.seedValid = true) :
    ∃ t, exec .gbuild s = .next t ∧ DrawnFrom Config.codeAlphabet s.seed 140 t ∧ t.gridValid = true ∧
      SameHash s t ∧ SameSeed s t ∧ SameErr s t ∧ Answered s t [⟨.ok, 0#32⟩] := by
  have hx := exec_gbuild_seeded hseed
  have hdrawn := buildGrid_drawnFrom Config.codeAlphabet s
  obtain ⟨hhash, hsame, herr, _, hgrid, hresponses, hevents, hresets⟩ := buildGrid_frame Config.codeAlphabet s
  -- As in `gbuildClosedForm`, comparing states must not run the 140 draws.
  generalize buildGrid Config.codeAlphabet s = t at hx hdrawn hhash hsame herr hgrid hresponses hevents hresets
  exact ⟨_, hx, hdrawn.respond .ok 0#32, hgrid, hhash, hsame, herr,
    respond_answered_of hresponses hevents hresets .ok 0#32⟩

/-- Settles O40: the run is `DERIVE`, which leaves the seed of the bytes whatever the state was, and then one
`GBUILD`. -/
theorem buildRunBuildsGrid : Obligations.BuildRunBuildsGrid := by
  unfold Obligations.BuildRunBuildsGrid
  intro s m rest hm
  obtain ⟨t, hderive, htev, htresp, htseed, htsv, hthopen, _, _, hterr⟩ :=
    deriveRunComputesSeed s m (present [.gbuild] ++ rest) hm
  rw [← present_append] at hderive
  obtain ⟨u, hx, hdrawn, hgrid, hhash, ⟨hseed, hsv⟩, herr, hresp, hev, _⟩ :=
    exec_gbuild_drawnFrom (s := t.withEvents rest) htsv
  obtain ⟨_, _, _, _, _, _, _, hopen⟩ := hhash
  have hgbuild := run_present_cons (is := []) 0 htev (by decide) hx
  rw [State.withEvents_seed, htseed] at hdrawn
  refine ⟨u, ?_, hev, ?_, hgrid, hseed.trans htseed, hsv.trans htsv, hopen.trans hthopen, hdrawn.stream.mtValid,
    hdrawn.idx_eq, hterr.trans herr, fun k j => hdrawn.chars k j (by omega)⟩
  · calc run (m.length + 3) (s.withEvents (present (buildCmds m) ++ rest))
      _ = run 1 t := run_add (m.length + 2) 1 hderive
      _ = .next u := hgbuild
  · rw [hresp, State.withEvents_responses, htresp]
    simp

end Sys2Proof.Machine

/-! PROOFS. The control and status registers (spec/44_system.md): their bits (O53), the reads (O52), the `STATUS` words
that the invariant allows (O56) and those that runs from reset reach (O54). -/

namespace Sys2Proof.Machine

/-! ## The bits of the registers -/

theorem statusWord_getLsbD_two (s : State) : (statusWord s).getLsbD 2 = s.mtValid := by
  rw [statusWord_eq_concat, BitVec.getLsbD_concat_succ, BitVec.getLsbD_concat_succ, BitVec.getLsbD_concat_zero]

theorem statusWord_getLsbD_four (s : State) : (statusWord s).getLsbD 4 = s.err := by
  rw [statusWord_eq_concat, BitVec.getLsbD_concat_succ, BitVec.getLsbD_concat_succ, BitVec.getLsbD_concat_succ,
    BitVec.getLsbD_concat_succ, BitVec.getLsbD_concat_zero]

theorem statusWord_getLsbD_high (s : State) {i : Nat} (h : 5 ≤ i) : (statusWord s).getLsbD i = false := by
  obtain ⟨j, rfl⟩ := Nat.exists_eq_add_of_le' h
  rw [statusWord_eq_concat, BitVec.getLsbD_concat_succ, BitVec.getLsbD_concat_succ, BitVec.getLsbD_concat_succ,
    BitVec.getLsbD_concat_succ, BitVec.getLsbD_concat_succ, BitVec.getLsbD_zero]

/-- The fields of `ERRINFO`, the reserved ones zero (R38). -/
theorem errInfoWord_fields (s : State) :
    (errInfoWord s).extractLsb' 0 4 = s.errCode ∧ (errInfoWord s).extractLsb' 4 4 = 0#4 ∧
      (errInfoWord s).extractLsb' 8 8 = s.errOp ∧ (errInfoWord s).extractLsb' 16 16 = 0#16 := by
  refine ⟨extractLsb'_append_low _ _, ?_, ?_, ?_⟩ <;> ext i hi <;>
    simp only [errInfoWord, BitVec.getElem_extractLsb', BitVec.getLsbD_append] <;> grind

/-- Settles O53: bit by bit. -/
theorem csrWordLayout : Obligations.CsrWordLayout := by
  unfold Obligations.CsrWordLayout
  exact fun s => ⟨statusWord_getLsbD_zero s, statusWord_getLsbD_one s, statusWord_getLsbD_two s,
    statusWord_getLsbD_three s, statusWord_getLsbD_four s, fun _ => statusWord_getLsbD_high s, errInfoWord_fields s⟩

/-- Settles O52: each read answers in the state it finds. -/
theorem rdcsrReadsRegisters : Obligations.RdcsrReadsRegisters := by
  unfold Obligations.RdcsrReadsRegisters
  intro s
  exact ⟨⟨_, exec_rdcsr_status s, respond_frame s _ _⟩, fun h => ⟨_, exec_rdcsr_seed h, respond_frame s _ _⟩,
    fun h => ⟨_, exec_rdcsr_noSeed h, raise_raised s _ _⟩, ⟨_, exec_rdcsr_errInfo s, respond_frame s _ _⟩,
    ⟨_, exec_rdcsr_absent s, raise_raised s _ _⟩⟩

/-! ## The flags of `STATUS` -/

/-- The five flags that `STATUS` shows (R36). -/
structure StatusFlags where
  hopen : Bool
  seedValid : Bool
  mtValid : Bool
  gridValid : Bool
  err : Bool

/-- The flags of a state. -/
def State.flags (s : State) : StatusFlags := ⟨s.hopen, s.seedValid, s.mtValid, s.gridValid, s.err⟩

/-- The word that shows the flags. -/
def StatusFlags.word (f : StatusFlags) : Word :=
  0#27 ++ BitVec.ofBool f.err ++ BitVec.ofBool f.gridValid ++ BitVec.ofBool f.mtValid ++
    BitVec.ofBool f.seedValid ++ BitVec.ofBool f.hopen

theorem statusWord_eq_word (s : State) : statusWord s = s.flags.word := rfl

/-- The flags that a word shows in its five low bits. -/
def flagsOf (w : Word) : StatusFlags :=
  ⟨w.getLsbD 0, w.getLsbD 1, w.getLsbD 2, w.getLsbD 3, w.getLsbD 4⟩

/-- The flags meet items 4 and 6 of the invariant: an open message excludes a seed, and a grid needs a twister. -/
def StatusFlags.Allowed (f : StatusFlags) : Prop :=
  (f.hopen = true → f.seedValid = false) ∧ (f.gridValid = true → f.mtValid = true)

/-- The flags show an open message or a seed beside a grid. -/
def StatusFlags.Vouched (f : StatusFlags) : Prop := f.gridValid = true → f.hopen = true ∨ f.seedValid = true

theorem Inv.flags_allowed {s : State} (h : Inv s) : s.flags.Allowed := ⟨h.seed, h.grid⟩

/-- The words of R171 are those that show allowed flags. -/
theorem word_allowed_bounds (f : StatusFlags) (h : f.Allowed) :
    f.word.toNat < 32 ∧ f.word.extractLsb' 0 2 ≠ 3#2 ∧ f.word.extractLsb' 2 2 ≠ 2#2 := by
  obtain ⟨a, b, c, d, e⟩ := f
  simp only [StatusFlags.Allowed] at h
  revert a b c d e
  decide

theorem word_vouched_bounds (f : StatusFlags) (h : f.Vouched) :
    ¬(f.word.extractLsb' 0 2 = 0#2 ∧ f.word.extractLsb' 2 2 = 3#2) := by
  obtain ⟨a, b, c, d, e⟩ := f
  simp only [StatusFlags.Vouched] at h
  revert a b c d e
  decide

/-- A word of five bits is known by its value, so that a claim about such words is a claim about 32 of them. -/
theorem word_cases_of_lt {P : Word → Prop} (h : ∀ n : Fin 32, P (BitVec.ofNat 32 n.val)) {w : Word}
    (hw : w.toNat < 32) : P w := by
  have hofNat : BitVec.ofNat 32 w.toNat = w := by simp
  exact hofNat ▸ h ⟨w.toNat, hw⟩

theorem flagsOf_word {w : Word} (hw : w.toNat < 32) : (flagsOf w).word = w :=
  word_cases_of_lt (P := fun w => (flagsOf w).word = w) (by decide) hw

theorem flagsOf_allowed {w : Word} (hw : w.toNat < 32) (hlow : w.extractLsb' 0 2 ≠ 3#2)
    (hhigh : w.extractLsb' 2 2 ≠ 2#2) : (flagsOf w).Allowed :=
  word_cases_of_lt (P := fun w => w.extractLsb' 0 2 ≠ 3#2 → w.extractLsb' 2 2 ≠ 2#2 → (flagsOf w).Allowed)
    (by simp only [StatusFlags.Allowed]; decide) hw hlow hhigh

theorem flagsOf_vouched {w : Word} (hw : w.toNat < 32)
    (h : ¬(w.extractLsb' 0 2 = 0#2 ∧ w.extractLsb' 2 2 = 3#2)) : (flagsOf w).Allowed → (flagsOf w).Vouched :=
  word_cases_of_lt (P := fun w => ¬(w.extractLsb' 0 2 = 0#2 ∧ w.extractLsb' 2 2 = 3#2) →
    (flagsOf w).Allowed → (flagsOf w).Vouched)
    (by simp only [StatusFlags.Allowed, StatusFlags.Vouched]; decide) hw h

/-! ## What the invariant allows -/

/-- The reset state with given flags, a code table of code characters and, under `ERR`, a legal error code. -/
def flaggedState (f : StatusFlags) : State :=
  { State.reset with
    hopen := f.hopen, seedValid := f.seedValid, mtValid := f.mtValid, gridValid := f.gridValid, err := f.err
    errCode := if f.err then ErrStatus.eIllegal.code else 0#4
    ct := Vector.replicate 35 (Vector.replicate 4 Config.codeAlphabet.bytes[0]) }

theorem inv_flaggedState {f : StatusFlags} (h : f.Allowed) : Inv (flaggedState f) where
  cursor := fun _ => Nat.zero_le _
  fill := fun _ => ⟨rfl, Nat.zero_le _⟩
  codes := fun _ k j => ⟨0, by simp [flaggedState]⟩
  grid := by
    obtain ⟨_, hgrid⟩ := h
    exact hgrid
  record := by
    refine ⟨fun herr => ⟨if_neg (Bool.eq_false_iff.mp herr), rfl⟩, fun herr => ?_⟩
    have hcode : (flaggedState f).errCode = ErrStatus.eIllegal.code := if_pos herr
    rw [hcode]
    exact errStatus_code_range .eIllegal
  seed := by
    obtain ⟨hopen, _⟩ := h
    exact hopen

/-- Settles O56: the invariant allows exactly the flags of its items 4 and 6, and each such choice is a state. -/
theorem statusWordsInvariantAllows : Obligations.StatusWordsInvariantAllows := by
  unfold Obligations.StatusWordsInvariantAllows
  refine ⟨fun w => ⟨?_, fun ⟨hw, hlow, hhigh⟩ => ?_⟩, by decide⟩
  · rintro ⟨s, hs, rfl⟩
    exact word_allowed_bounds s.flags hs.flags_allowed
  · exact ⟨flaggedState (flagsOf w), inv_flaggedState (flagsOf_allowed hw hlow hhigh), flagsOf_word hw⟩

/-! ## Programs that reach given flags -/

/-- Presented in any state with the flags `f`, the commands run and leave the flags `g`. -/
def Leads (is : List Instr) (f g : StatusFlags) : Prop :=
  ∀ (s : State) (rest : List HostEvent), s.flags = f →
    ∃ t, run is.length (s.withEvents (present is ++ rest)) = .next t ∧ t.flags = g ∧ t.events = rest

section
variable {f g k : StatusFlags}

theorem leads_nil (f : StatusFlags) : Leads [] f f := fun s rest hs => ⟨s.withEvents rest, rfl, hs, rfl⟩

theorem Leads.append {is js : List Instr} (h : Leads is f g) (h' : Leads js g k) : Leads (is ++ js) f k := by
  intro s rest hs
  obtain ⟨t, hrun, ht, hev⟩ := h s (present js ++ rest) hs
  obtain ⟨u, hrun', hu, hev'⟩ := h' t rest ht
  rw [← hev] at hrun'
  refine ⟨u, ?_, hu, hev'⟩
  rw [List.length_append, present_append, run_add _ _ hrun]
  exact hrun'

theorem leads_single {i : Instr} (hi : i.wf = true) (h : ∀ s t, s.flags = f → exec i s = .next t → t.flags = g) :
    Leads [i] f g := by
  intro s rest hs
  obtain ⟨t, d, hx, ⟨_, hev, _⟩, _⟩ := exec_endsIn i (s.withEvents rest)
  exact ⟨t, run_present_cons (is := []) 0 rfl (decode_encode hi) hx, h (s.withEvents rest) t hs hx, hev⟩

theorem leads_hinit (f : StatusFlags) : Leads [.hinit] f { f with hopen := true, seedValid := false } := by
  refine leads_single rfl fun s t hs ht => ?_
  obtain rfl := Host.Outcome.next.inj ((exec_hinit s).symm.trans ht)
  exact hs ▸ rfl

theorem leads_hfin (h : f.hopen = true) : Leads [.hfin] f { f with hopen := false, seedValid := true } := by
  refine leads_single rfl fun s t hs ht => ?_
  subst hs
  obtain rfl := Host.Outcome.next.inj ((exec_hfin_open h).symm.trans ht)
  obtain ⟨⟨_, _, hmt⟩, _, _, _, ⟨_, hgrid⟩, ⟨herr, _⟩, _⟩ := finalPad_only s
  simp [State.flags, hmt, hgrid, herr]

theorem leads_mtseed (f : StatusFlags) (w : Word) : Leads [.mtseed w] f { f with mtValid := true } := by
  refine leads_single rfl fun s t hs ht => ?_
  obtain rfl := Host.Outcome.next.inj ((exec_mtseed w s).symm.trans ht)
  exact hs ▸ rfl

/-- The error of an unseeded twister sets `ERR` and no other flag (R185). -/
theorem leads_mtnext_unseeded (h : f.mtValid = false) : Leads [.mtnext] f { f with err := true } := by
  refine leads_single rfl fun s t hs ht => ?_
  subst hs
  obtain rfl := Host.Outcome.next.inj ((exec_mtnext_unseeded h).symm.trans ht)
  rfl

theorem leads_gbuild (h : f.seedValid = true) : Leads [.gbuild] f { f with mtValid := true, gridValid := true } := by
  refine leads_single rfl fun s t hs ht => ?_
  subst hs
  obtain rfl := Host.Outcome.next.inj ((exec_gbuild_seeded h).symm.trans ht)
  obtain ⟨⟨_, _, _, _, _, _, _, hopen⟩, ⟨_, hseed⟩, ⟨herr, _⟩, hmt, hgrid, _⟩ := buildGrid_frame Config.codeAlphabet s
  simp [State.flags, hopen, hseed, herr, hmt, hgrid]

/-- `DERIVE` of the empty text (R84). -/
theorem leads_derive (f : StatusFlags) :
    Leads (deriveCmds []) f { f with hopen := false, seedValid := true } :=
  (leads_hinit f).append (leads_hfin rfl)

end

/-- An error, if `ERR` is wanted: `MTNEXT` on the unseeded twister. -/
def errorCmds (f : StatusFlags) : List Instr := if f.err then [.mtnext] else []

/-- A grid or a seeded twister, as wanted. -/
def twisterCmds (f : StatusFlags) : List Instr :=
  if f.gridValid then buildCmds [] else if f.mtValid then [.mtseed 0#32] else []

/-- An open message or a derived seed, as wanted. -/
def messageCmds (f : StatusFlags) : List Instr :=
  if f.hopen then [.hinit] else if f.seedValid then deriveCmds [] else []

/-- The flags after reset (R201). -/
def resetFlags : StatusFlags := ⟨false, false, false, false, false⟩

theorem leads_errorCmds (f : StatusFlags) : Leads (errorCmds f) resetFlags { resetFlags with err := f.err } := by
  unfold errorCmds
  cases f.err with
  | false => exact leads_nil _
  | true => exact leads_mtnext_unseeded rfl

/-- A grid leaves the seed it was built from (R142). -/
theorem leads_twisterCmds {f : StatusFlags} (h : f.Allowed) :
    Leads (twisterCmds f) { resetFlags with err := f.err } ⟨false, f.gridValid, f.mtValid, f.gridValid, f.err⟩ := by
  obtain ⟨_, hgrid⟩ := h
  unfold twisterCmds
  cases hg : f.gridValid with
  | true =>
    rw [hgrid hg]
    exact (leads_derive _).append (leads_gbuild rfl)
  | false =>
    cases f.mtValid with
    | true => exact leads_mtseed _ _
    | false => exact leads_nil _

/-- What is vouched for needs no flags but those of a message or a seed to be brought about last. -/
theorem leads_messageCmds {f : StatusFlags} (h : f.Allowed) (hv : f.Vouched) :
    Leads (messageCmds f) ⟨false, f.gridValid, f.mtValid, f.gridValid, f.err⟩ f := by
  obtain ⟨hopen, seed, mt, grid, err⟩ := f
  obtain ⟨hexcl, _⟩ := h
  cases hopen with
  | true =>
    obtain rfl : seed = false := hexcl rfl
    exact leads_hinit _
  | false =>
    cases seed with
    | true => exact leads_derive _
    | false =>
      obtain rfl : grid = false := Bool.eq_false_iff.mpr fun hg => by simpa using hv hg
      exact leads_nil _

/-- From reset, all flags that are allowed and vouched for are reached. -/
theorem leads_from_reset {f : StatusFlags} (h : f.Allowed) (hv : f.Vouched) :
    Leads (errorCmds f ++ twisterCmds f ++ messageCmds f) resetFlags f :=
  ((leads_errorCmds f).append (leads_twisterCmds h)).append (leads_messageCmds h hv)

/-! ## What runs from reset reach -/

theorem inv_run {evs : List HostEvent} {n : Nat} {t : State} (ht : run n (State.reset.withEvents evs) = .next t) :
    Inv t :=
  run_keeps (fun _ _ => Inv.step) (invariantAtReset.withEvents evs) ht

/-- Settles O54: every run keeps the invariant and vouches for a grid, and a program of at most six commands reaches
each choice of flags that is left. -/
theorem reachableStatusWords : Obligations.ReachableStatusWords := by
  unfold Obligations.ReachableStatusWords
  refine ⟨fun w => ⟨?_, fun ⟨hw, hlow, hhigh, hgrid⟩ => ?_⟩, by decide⟩
  · rintro ⟨evs, n, t, ht, rfl⟩
    obtain ⟨hw, hlow, hhigh⟩ := word_allowed_bounds t.flags (inv_run ht).flags_allowed
    exact ⟨hw, hlow, hhigh, word_vouched_bounds t.flags (gridNeedsMessageOrSeed_run ht)⟩
  · have hallowed := flagsOf_allowed hw hlow hhigh
    obtain ⟨t, ht, hflags, _⟩ := leads_from_reset hallowed (flagsOf_vouched hw hgrid hallowed) State.reset [] rfl
    refine ⟨_, _, t, ht, ?_⟩
    rw [statusWord_eq_word, hflags, flagsOf_word hw]

end Sys2Proof.Machine

/-! PROOFS. Write sets and interference (spec/10_state.md section 13): each command writes its own units alone (O20),
the reads may be repeated (O21), and the error record is read by no command but `RDCSR` (O12). -/

namespace Sys2Proof.Machine

/-! ## Write sets -/

theorem SameHash.trans {s t u : State} (h : SameHash s t) (g : SameHash t u) : SameHash s u := by
  obtain ⟨ha, hb, hc, hd, hbuf, hfill, hlen, hopen⟩ := h
  obtain ⟨ga, gb, gc, gd, gbuf, gfill, glen, gopen⟩ := g
  exact ⟨ga.trans ha, gb.trans hb, gc.trans hc, gd.trans hd, gbuf.trans hbuf, gfill.trans hfill, glen.trans hlen,
    gopen.trans hopen⟩

section
variable {i : Instr} {s u : State}

/-- An update by a command that R44 does not give the hash kernel leaves it alone. -/
theorem UnitUpdate.sameHash (h : UnitUpdate i s u) (hw : writesHash i = false) : SameHash s u := by
  cases h with
  | hinit | hbyte | hfin => exact Bool.noConfusion hw
  | gbuild =>
    obtain ⟨hhash, _⟩ := buildGrid_frame Config.codeAlphabet s
    exact hhash
  | mtseed | mtnext => exact SameHash.refl s
  | rdcsr | symat | codefor | xlate => exact SameHash.refl s

theorem countByte_sameSeed (s : State) : SameSeed s (countByte s) := ⟨rfl, rfl⟩

theorem UnitUpdate.sameSeed (h : UnitUpdate i s u) (hw : writesSeed i = false) : SameSeed s u := by
  cases h with
  | hinit | hfin => exact Bool.noConfusion hw
  | hbyte b => exact (absorb_only s b).seed.trans (countByte_sameSeed _)
  | gbuild =>
    obtain ⟨_, hseed, _⟩ := buildGrid_frame Config.codeAlphabet s
    exact hseed
  | mtseed | mtnext => exact SameSeed.refl s
  | rdcsr | symat | codefor | xlate => exact SameSeed.refl s

/-- `GBUILD` alone writes the code table (R30). -/
theorem UnitUpdate.sameGrid (h : UnitUpdate i s u) (hw : writesGrid i = false) : SameGrid s u := by
  cases h with
  | gbuild => exact Bool.noConfusion hw
  | hbyte b => exact (absorb_only s b).grid.trans (countByte_sameGrid _)
  | hfin => exact (finalPad_only s).grid.trans (takeSeed_sameGrid _)
  | hinit | mtseed | mtnext => exact SameGrid.refl s
  | rdcsr | symat | codefor | xlate => exact SameGrid.refl s

end

/-- Settles O20: an error writes the record and the response alone, and a result is one of the updates of the units. -/
theorem writeSetsOfCommands : Obligations.WriteSetsOfCommands := by
  unfold Obligations.WriteSetsOfCommands
  intro i s t ht
  obtain ⟨e, he⟩ | ⟨u, st, d, hu, _, he⟩ := exec_cases i s
  · obtain rfl := Host.Outcome.next.inj (he.symm.trans ht)
    obtain ⟨_, _, _, ⟨htwister, hhash, hseed, hgrid⟩, hans⟩ := raise_raised s e i.opcode
    refine ⟨fun _ => htwister, fun _ => hhash, fun _ => hseed, fun _ => hgrid, fun st d hr hst => ?_⟩
    obtain rfl : Status.error e = st := congrArg Response.status (hans.response_unique hr)
    exact Bool.noConfusion hst
  · obtain rfl := Host.Outcome.next.inj (he.symm.trans ht)
    obtain ⟨htwister, hhash, hseed, hgrid⟩ := respond_sameUnits u st d
    exact ⟨fun hw => (hu.sameTwister hw).trans htwister, fun hw => (hu.sameHash hw).trans hhash,
      fun hw => (hu.sameSeed hw).trans hseed, fun hw => (hu.sameGrid hw).trans hgrid,
      fun _ _ _ _ => hu.sameErr.trans (SameErr.refl u)⟩

/-! ## Repeated reads -/

/-- The command completes without a change of a unit, and again with the same response. -/
def AnswersTwice (i : Instr) (s : State) : Prop :=
  ∃ t u r, exec i s = .next t ∧ exec i t = .next u ∧ SameUnits s t ∧ SameUnits t u ∧ Answered s t [r] ∧
    Answered t u [r]

section
variable {i : Instr} {s : State}

theorem answersTwice_of_respond {st : Status} {d : Word} (h : exec i s = .next (respond s st d))
    (h' : exec i (respond s st d) = .next (respond (respond s st d) st d)) : AnswersTwice i s :=
  ⟨_, _, _, h, h', respond_sameUnits s st d, respond_sameUnits _ st d, respond_answered s st d,
    respond_answered _ st d⟩

theorem answersTwice_of_raise {e : ErrStatus} {op : Byte} (h : exec i s = .next (raise s e op))
    (h' : exec i (raise s e op) = .next (raise (raise s e op) e op)) : AnswersTwice i s := by
  obtain ⟨_, _, _, hunits, hans⟩ := raise_raised s e op
  obtain ⟨_, _, _, hunits', hans'⟩ := raise_raised (raise s e op) e op
  exact ⟨_, _, _, h, h', hunits, hunits', hans, hans'⟩

end

theorem rdcsr_answersTwice (n : BitVec 2) (s : State) : AnswersTwice (.rdcsr n) s := by
  obtain rfl | rfl | rfl | rfl := csrNumber_cases n
  · exact answersTwice_of_respond (exec_rdcsr_status s) (exec_rdcsr_status _)
  · cases h : s.seedValid with
    | true => exact answersTwice_of_respond (exec_rdcsr_seed h) (exec_rdcsr_seed h)
    | false => exact answersTwice_of_raise (exec_rdcsr_noSeed h) (exec_rdcsr_noSeed h)
  · exact answersTwice_of_respond (exec_rdcsr_errInfo s) (exec_rdcsr_errInfo _)
  · exact answersTwice_of_raise (exec_rdcsr_absent s) (exec_rdcsr_absent _)

theorem symat_answersTwice (row col : BitVec 16) (s : State) : AnswersTwice (.symat row col) s := by
  cases h : cellIndex row col with
  | some k => exact answersTwice_of_respond (exec_symat_some h s) (exec_symat_some h _)
  | none => exact answersTwice_of_respond (exec_symat_none h s) (exec_symat_none h _)

theorem codefor_answersTwice (u : Word) (s : State) : AnswersTwice (.codefor u) s := by
  cases hg : s.gridValid with
  | false => exact answersTwice_of_raise (exec_codefor_noGrid hg u) (exec_codefor_noGrid (s := raise s _ _) hg u)
  | true =>
    cases h : symIndex u with
    | some k => exact answersTwice_of_respond (exec_codefor_some hg h) (exec_codefor_some hg h)
    | none => exact answersTwice_of_respond (exec_codefor_none hg h) (exec_codefor_none hg h)

theorem xlate_answersTwice (u : Word) (s : State) : AnswersTwice (.xlate u) s := by
  cases hg : s.gridValid with
  | false => exact answersTwice_of_raise (exec_xlate_noGrid hg u) (exec_xlate_noGrid (s := raise s _ _) hg u)
  | true =>
    cases h : symIndex (upcase u) with
    | some k => exact answersTwice_of_respond (exec_xlate_some hg h) (exec_xlate_some hg h)
    | none => exact answersTwice_of_respond (exec_xlate_none hg h) (exec_xlate_none hg h)

/-- Settles O21: what a read looks at is not changed by its own answer. -/
theorem readsMayBeRepeated : Obligations.ReadsMayBeRepeated := by
  unfold Obligations.ReadsMayBeRepeated
  rintro i s (⟨row, col, rfl⟩ | ⟨u, rfl⟩ | ⟨u, rfl⟩ | ⟨n, rfl⟩)
  · exact symat_answersTwice row col s
  · exact codefor_answersTwice u s
  · exact xlate_answersTwice u s
  · exact rdcsr_answersTwice n s

/-! ## The error record is not read -/

/-- The state with another error record. -/
def State.withRecord (s : State) (b : Bool) (c : BitVec 4) (o : Byte) : State :=
  { s with err := b, errCode := c, errOp := o }

/-- A loop commutes with a change of the state that its runs commute with. -/
theorem loop_commute {σ : Type} {n : Nat} (f : Fin n → σ → σ) (g : σ → σ) (h : ∀ i t, f i (g t) = g (f i t)) (s : σ) :
    loop n f (g s) = g (loop n f s) := by
  have hall : ∀ (k : Nat) (hk : k ≤ n), forFin f k hk (g s) = g (forFin f k hk s) := by
    intro k hk
    induction k with
    | zero => rfl
    | succ k ih => exact (congrArg (f ⟨k, hk⟩) (ih _)).trans (h ⟨k, hk⟩ _)
  exact hall n (Nat.le_refl n)

section
variable (b : Bool) (c : BitVec 4) (o : Byte)

theorem md5Block_withRecord (s : State) : md5Block (s.withRecord b c o) = (md5Block s).withRecord b c o := by
  have hchain : (s.withRecord b c o).chain = s.chain := rfl
  have hbuf : (s.withRecord b c o).hbuf = s.hbuf := rfl
  rw [md5Block_eq, md5Block_eq, hchain, hbuf]
  generalize md5Compress s.chain s.hbuf = q
  rfl

theorem absorb_withRecord (s : State) (x : Byte) :
    absorb (s.withRecord b c o) x = (absorb s x).withRecord b c o := by
  have hfill : (s.withRecord b c o).hfill = s.hfill := rfl
  have hstore : storeByte (s.withRecord b c o) x = (storeByte s x).withRecord b c o := rfl
  rw [absorb, absorb, hfill, hstore, md5Block_withRecord]
  generalize md5Block (storeByte s x) = t
  split <;> rfl

theorem padZeros_withRecord (n : Nat) (s : State) :
    padZeros n (s.withRecord b c o) = (padZeros n s).withRecord b c o := by
  induction n generalizing s with
  | zero => rfl
  | succ n ih =>
    by_cases h : s.hfill = 56#6
    · rw [padZeros_done _ h, padZeros_done (s := s.withRecord b c o) _ h]
    · rw [padZeros_step _ h, padZeros_step (s := s.withRecord b c o) _ h, absorb_withRecord, ih]

theorem finalPad_withRecord (s : State) : finalPad (s.withRecord b c o) = (finalPad s).withRecord b c o := by
  have hlen : (s.withRecord b c o).hlen = s.hlen := rfl
  rw [finalPad, finalPad, hlen, absorb_withRecord, padZeros_withRecord]
  exact loop_commute (fun j t => absorb t (lengthByte (s.hlen * 8#64) j)) (·.withRecord b c o)
    (fun _ t => absorb_withRecord b c o t _) _

theorem drawChar_withRecord (ca : CodeAlphabet) (s : State) (k : Fin 35) (j : Fin 4) :
    drawChar ca (s.withRecord b c o) k j = (drawChar ca s k j).withRecord b c o := by
  have hsame : SameTwister s (s.withRecord b c o) := ⟨rfl, rfl, rfl⟩
  rw [drawChar, drawChar, hsame.extractWord_eq]
  generalize extractWord s = w
  rfl

theorem fillTable_withRecord (ca : CodeAlphabet) (s : State) :
    fillTable ca (s.withRecord b c o) = (fillTable ca s).withRecord b c o := by
  have cell (k : Fin 35) (t : State) := loop_commute (fun j t => drawChar ca t k j) (·.withRecord b c o)
    (fun j t => drawChar_withRecord b c o ca t k j) t
  have row (r : Fin 7) (t : State) :=
    loop_commute (n := 5) (fun col => loop 4 (fun j t => drawChar ca t (gridCell r col) j)) (·.withRecord b c o)
      (fun col t => cell (gridCell r col) t) t
  exact loop_commute (fun r => loop 5 (fun col => loop 4 (fun j t => drawChar ca t (gridCell r col) j)))
    (·.withRecord b c o) row s

theorem buildGrid_withRecord (ca : CodeAlphabet) (s : State) :
    buildGrid ca (s.withRecord b c o) = (buildGrid ca s).withRecord b c o := by
  have hseed : seedTwister ((s.withRecord b c o).withGridValid false) (s.withRecord b c o).seed =
      (seedTwister (s.withGridValid false) s.seed).withRecord b c o := rfl
  rw [buildGrid, buildGrid, hseed, fillTable_withRecord]
  generalize fillTable ca (seedTwister (s.withGridValid false) s.seed) = t
  rfl

end

/-- Two outcomes with the same responses, events and units. -/
def SameButRecord (o o' : Host.Outcome State Fault Refusal) : Prop :=
  ∃ t t', o = .next t ∧ o' = .next t' ∧ t'.responses = t.responses ∧ SameUnits t t' ∧ t'.events = t.events

theorem State.withRecord_sameUnits (s : State) (b : Bool) (c : BitVec 4) (o : Byte) :
    SameUnits s (s.withRecord b c o) := ⟨SameTwister.refl s, SameHash.refl s, SameSeed.refl s, SameGrid.refl s⟩

section
variable {i : Instr} {s : State} {b : Bool} {c : BitVec 4} {o : Byte}

theorem sameButRecord_of_raise {e : ErrStatus} {op : Byte} (h : exec i s = .next (raise s e op))
    (h' : exec i (s.withRecord b c o) = .next (raise (s.withRecord b c o) e op)) :
    SameButRecord (exec i s) (exec i (s.withRecord b c o)) :=
  ⟨_, _, h, h', rfl, s.withRecord_sameUnits b c o, rfl⟩

theorem sameButRecord_of_respond {u u' : State} {st : Status} {d d' : Word} (h : exec i s = .next (respond u st d))
    (h' : exec i (s.withRecord b c o) = .next (respond u' st d')) (hu : u' = u.withRecord b c o) (hd : d' = d) :
    SameButRecord (exec i s) (exec i (s.withRecord b c o)) := by
  subst hu hd
  exact ⟨_, _, h, h', rfl, u.withRecord_sameUnits b c o, rfl⟩

end

theorem exec_rdcsr_sameButRecord {n : BitVec 2} (s : State) (b : Bool) (c : BitVec 4) (o : Byte)
    (hstatus : Instr.rdcsr n ≠ .rdcsr 0#2) (herrInfo : Instr.rdcsr n ≠ .rdcsr 2#2) :
    SameButRecord (exec (.rdcsr n) s) (exec (.rdcsr n) (s.withRecord b c o)) := by
  obtain rfl | rfl | rfl | rfl := csrNumber_cases n
  · exact absurd rfl hstatus
  · cases h : s.seedValid with
    | true => exact sameButRecord_of_respond (exec_rdcsr_seed h) (exec_rdcsr_seed h) rfl rfl
    | false => exact sameButRecord_of_raise (exec_rdcsr_noSeed h) (exec_rdcsr_noSeed h)
  · exact absurd rfl herrInfo
  · exact sameButRecord_of_raise (exec_rdcsr_absent s) (exec_rdcsr_absent _)

theorem exec_symat_sameButRecord (row col : BitVec 16) (s : State) (b : Bool) (c : BitVec 4) (o : Byte) :
    SameButRecord (exec (.symat row col) s) (exec (.symat row col) (s.withRecord b c o)) := by
  cases h : cellIndex row col with
  | some k => exact sameButRecord_of_respond (exec_symat_some h s) (exec_symat_some h _) rfl rfl
  | none => exact sameButRecord_of_respond (exec_symat_none h s) (exec_symat_none h _) rfl rfl

theorem exec_codefor_sameButRecord (u : Word) (s : State) (b : Bool) (c : BitVec 4) (o : Byte) :
    SameButRecord (exec (.codefor u) s) (exec (.codefor u) (s.withRecord b c o)) := by
  cases hg : s.gridValid with
  | false =>
    exact sameButRecord_of_raise (exec_codefor_noGrid hg u) (exec_codefor_noGrid (s := s.withRecord b c o) hg u)
  | true =>
    cases h : symIndex u with
    | some k => exact sameButRecord_of_respond (exec_codefor_some hg h) (exec_codefor_some hg h) rfl rfl
    | none => exact sameButRecord_of_respond (exec_codefor_none hg h) (exec_codefor_none hg h) rfl rfl

theorem exec_xlate_sameButRecord (u : Word) (s : State) (b : Bool) (c : BitVec 4) (o : Byte) :
    SameButRecord (exec (.xlate u) s) (exec (.xlate u) (s.withRecord b c o)) := by
  cases hg : s.gridValid with
  | false => exact sameButRecord_of_raise (exec_xlate_noGrid hg u) (exec_xlate_noGrid (s := s.withRecord b c o) hg u)
  | true =>
    cases h : symIndex (upcase u) with
    | some k => exact sameButRecord_of_respond (exec_xlate_some hg h) (exec_xlate_some hg h) rfl rfl
    | none => exact sameButRecord_of_respond (exec_xlate_none hg h) (exec_xlate_none hg h) rfl rfl

theorem exec_hbyte_sameButRecord (x : Byte) (s : State) (b : Bool) (c : BitVec 4) (o : Byte) :
    SameButRecord (exec (.hbyte x) s) (exec (.hbyte x) (s.withRecord b c o)) := by
  cases h : s.hopen with
  | true =>
    have habsorb : countByte (absorb (s.withRecord b c o) x) = (countByte (absorb s x)).withRecord b c o := by
      rw [absorb_withRecord]
      generalize absorb s x = t
      rfl
    exact sameButRecord_of_respond (exec_hbyte_open h x) (exec_hbyte_open (s := s.withRecord b c o) h x) habsorb rfl
  | false => exact sameButRecord_of_raise (exec_hbyte_closed h x) (exec_hbyte_closed (s := s.withRecord b c o) h x)

theorem exec_hfin_sameButRecord (s : State) (b : Bool) (c : BitVec 4) (o : Byte) :
    SameButRecord (exec .hfin s) (exec .hfin (s.withRecord b c o)) := by
  cases h : s.hopen with
  | true =>
    have hpad := finalPad_withRecord b c o s
    have hseed : takeSeed (finalPad (s.withRecord b c o)) = (takeSeed (finalPad s)).withRecord b c o := by
      rw [hpad]
      generalize finalPad s = t
      rfl
    have hha : (finalPad (s.withRecord b c o)).ha = (finalPad s).ha := by
      rw [hpad]
      generalize finalPad s = t
      rfl
    exact sameButRecord_of_respond (exec_hfin_open h) (exec_hfin_open (s := s.withRecord b c o) h) hseed hha
  | false => exact sameButRecord_of_raise (exec_hfin_closed h) (exec_hfin_closed (s := s.withRecord b c o) h)

theorem exec_mtnext_sameButRecord (s : State) (b : Bool) (c : BitVec 4) (o : Byte) :
    SameButRecord (exec .mtnext s) (exec .mtnext (s.withRecord b c o)) := by
  cases h : s.mtValid with
  | true =>
    have hsame : SameTwister s (s.withRecord b c o) := ⟨rfl, rfl, rfl⟩
    exact sameButRecord_of_respond (exec_mtnext_seeded h) (exec_mtnext_seeded (s := s.withRecord b c o) h) rfl
      hsame.extractWord_eq
  | false => exact sameButRecord_of_raise (exec_mtnext_unseeded h) (exec_mtnext_unseeded (s := s.withRecord b c o) h)

theorem exec_gbuild_sameButRecord (s : State) (b : Bool) (c : BitVec 4) (o : Byte) :
    SameButRecord (exec .gbuild s) (exec .gbuild (s.withRecord b c o)) := by
  cases h : s.seedValid with
  | true =>
    exact sameButRecord_of_respond (exec_gbuild_seeded h) (exec_gbuild_seeded (s := s.withRecord b c o) h)
      (buildGrid_withRecord b c o Config.codeAlphabet s) rfl
  | false => exact sameButRecord_of_raise (exec_gbuild_unseeded h) (exec_gbuild_unseeded (s := s.withRecord b c o) h)

/-- Settles O12: each update commutes with a change of the record, and no prerequisite and no answer but those of
`RDCSR` looks at it. -/
theorem errorRecordDisablesNothing : Obligations.ErrorRecordDisablesNothing := by
  unfold Obligations.ErrorRecordDisablesNothing
  intro i s b c o hstatus herrInfo
  show SameButRecord (exec i s) (exec i (s.withRecord b c o))
  cases i with
  | rdcsr n => exact exec_rdcsr_sameButRecord s b c o hstatus herrInfo
  | hinit => exact sameButRecord_of_respond (exec_hinit s) (exec_hinit _) rfl rfl
  | hbyte x => exact exec_hbyte_sameButRecord x s b c o
  | hfin => exact exec_hfin_sameButRecord s b c o
  | mtseed w => exact sameButRecord_of_respond (exec_mtseed w s) (exec_mtseed w _) rfl rfl
  | mtnext => exact exec_mtnext_sameButRecord s b c o
  | gbuild => exact exec_gbuild_sameButRecord s b c o
  | symat row col => exact exec_symat_sameButRecord row col s b c o
  | codefor u => exact exec_codefor_sameButRecord u s b c o
  | xlate u => exact exec_xlate_sameButRecord u s b c o

end Sys2Proof.Machine

/-! PROOFS. The hash kernel, command by command (spec/40_hash_seed_derivation.md): `HINIT` (O22), `HBYTE` (O23), the
refusals (O24), `HFIN` (O25), and the worked example of the block compression (O26). -/

namespace Sys2Proof.Machine

/-! ## Opening a message and absorbing a byte -/

/-- Settles O22: the update of `HINIT` writes what R102 names. -/
theorem hinitOpensMessage : Obligations.HinitOpensMessage := by
  unfold Obligations.HinitOpensMessage
  exact fun s => ⟨_, exec_hinit s, rfl, rfl, rfl, rfl, rfl, rfl, rfl, rfl, rfl, rfl, SameTwister.refl s,
    SameGrid.refl s, SameErr.refl s, respond_answered_of rfl rfl rfl .ok _⟩

/-- The chaining registers over `HBYTE`, in the two cases of R107. -/
theorem absorb_chain_short {s : State} (h : s.hfill ≠ 63#6) (x : Byte) : (absorb s x).chain = s.chain :=
  (absorb_chain s x).trans (if_neg h)

theorem absorb_chain_full {s : State} (h : s.hfill = 63#6) (x : Byte) :
    (absorb s x).chain = md5Compress s.chain (absorb s x).hbuf :=
  (absorb_chain s x).trans (if_pos h)

/-- Settles O23: `HBYTE` absorbs its byte and counts it. -/
theorem hbyteAbsorbsByte : Obligations.HbyteAbsorbsByte := by
  unfold Obligations.HbyteAbsorbsByte
  intro s b h
  have hx := exec_hbyte_open h b
  have ho := absorb_only s b
  have hbuf := absorb_hbuf s b
  have hfill : (absorb s b).hfill.toNat = (s.hfill.toNat + 1) % 64 := by
    rw [absorb_hfill, BitVec.toNat_add]
    rfl
  have hlen : ((absorb s b).hlen + 1#64).toNat = (s.hlen.toNat + 1) % 2 ^ 64 := by
    rw [ho.hlen, BitVec.toNat_add]
    rfl
  have hshort := fun hf => absorb_chain_short (s := s) hf b
  have hfull := fun hf => absorb_chain_full (s := s) hf b
  -- Comparing states must not run the compression.
  generalize absorb s b = t at hx ho hbuf hfill hlen hshort hfull
  exact ⟨_, hx, hbuf, hfill, hlen, hshort, hfull, ho.hopen.trans h, ho.seed, ho.twister, ho.grid, ho.err,
    respond_answered_of ho.responses ho.events ho.resets .ok _⟩

/-- Settles O24: both are refused by their prerequisite. -/
theorem hashCommandsNeedOpenMessage : Obligations.HashCommandsNeedOpenMessage := by
  unfold Obligations.HashCommandsNeedOpenMessage
  exact fun s b h => ⟨⟨_, exec_hbyte_closed h b, raise_raised s _ _⟩, ⟨_, exec_hfin_closed h, raise_raised s _ _⟩⟩

/-! ## Finishing a message -/

/-- The bytes that stand in the block buffer. -/
def bufferedBytes (s : State) : List Byte := s.hbuf.toList.take s.hfill.toNat

theorem bufferedBytes_length (s : State) : (bufferedBytes s).length = s.hfill.toNat := by
  have := s.hfill.isLt
  simp only [bufferedBytes, List.length_take, Vector.length_toList]
  omega

/-- Whatever was absorbed before, the kernel is as if it had absorbed the buffered bytes alone from its chaining
registers as they are. -/
theorem absorbed_bufferedBytes (s : State) : Absorbed s.chain (bufferedBytes s) s := by
  have hlt := s.hfill.isLt
  have hmod : (bufferedBytes s).length % 64 = s.hfill.toNat := by
    rw [bufferedBytes_length]
    exact Nat.mod_eq_of_lt hlt
  have hdiv : (bufferedBytes s).length / 64 = 0 := by
    rw [bufferedBytes_length]
    exact Nat.div_eq_of_lt hlt
  refine ⟨hmod.symm, fun i hi hlt => ?_, by rw [hdiv, chainAfter_zero]⟩
  rw [hmod] at hlt
  rw [hdiv, Nat.mul_zero, Nat.zero_add, bufferedBytes, List.getD_eq_getElem _ _ (by simp; omega)]
  simp

/-- The padded bytes fill one block when at most 55 bytes are buffered, and two otherwise (R108). -/
theorem paddedBuffer_blocks (s : State) (bits : BitVec 64) :
    (bufferedBytes s ++ finalBytes s.hfill.toNat bits).length / 64 = if s.hfill.toNat ≤ 55 then 1 else 2 := by
  have := s.hfill.isLt
  simp only [finalBytes, List.length_append, List.length_cons, List.length_replicate, List.length_map,
    List.length_range, bufferedBytes_length]
  split <;> omega

/-- The chaining registers after the final padding (R108). -/
theorem finalPad_chain (s : State) :
    (finalPad s).chain =
      if s.hfill.toNat ≤ 55 then
        md5Compress s.chain (blockAt (bufferedBytes s ++ finalBytes s.hfill.toNat (s.hlen * 8#64)) 0)
      else
        md5Compress (md5Compress s.chain (blockAt (bufferedBytes s ++ finalBytes s.hfill.toNat (s.hlen * 8#64)) 0))
          (blockAt (bufferedBytes s ++ finalBytes s.hfill.toNat (s.hlen * 8#64)) 1) := by
  rw [(absorbed_bufferedBytes s).finalPad.chain, paddedBuffer_blocks]
  split
  · rw [chainAfter_succ, chainAfter_zero]
  · rw [chainAfter_succ, chainAfter_succ, chainAfter_zero]

/-- Settles O25: `HFIN` absorbs its padding and takes the first chaining register. -/
theorem hfinPadsAndTakesSeed : Obligations.HfinPadsAndTakesSeed := by
  unfold Obligations.HfinPadsAndTakesSeed
  intro s h
  have hx := exec_hfin_open h
  have ho := finalPad_only s
  have hfill := finalPad_hfill s
  have hchain := finalPad_chain s
  -- Comparing states must not run the compression.
  generalize finalPad s = t at hx ho hfill hchain
  exact ⟨_, hx, hchain, hfill, ho.hlen, rfl, rfl, rfl, ho.twister, ho.grid, ho.err,
    respond_answered_of ho.responses ho.events ho.resets .ok _⟩

/-! ## The worked example -/

/-- Settles O26: the compression is evaluated. -/
theorem md5BlockWorkedExample : Obligations.Md5BlockWorkedExample := by
  unfold Obligations.Md5BlockWorkedExample
  decide +kernel

end Sys2Proof.Machine

/-! PROOFS. The twister, command by command (spec/41_mt19937_generator.md): the twist as the in-place loop (O31),
`MTSEED` (O33), `MTNEXT` (O34) and its refusal (O35). -/

namespace Sys2Proof.Machine

/-! ## The in-place loop of the twist -/

/-- After `k` steps of the loop the first `k` words are new and the others are old (R124). -/
def TwistedUpTo (old : Vector Word 624) (k : Nat) (mt : Vector Word 624) : Prop :=
  ∀ (j : Nat) (hj : j < 624), mt[j] = if j < k then (twist old)[j] else old[j]

section
variable {old mt : Vector Word 624} {k : Nat}

theorem TwistedUpTo.getElem_new (h : TwistedUpTo old k mt) {j : Nat} (hj : j < 624) (hlt : j < k) :
    mt[j] = (twist old)[j] := (h j hj).trans (if_pos hlt)

theorem TwistedUpTo.getElem_old (h : TwistedUpTo old k mt) {j : Nat} (hj : j < 624) (hle : k ≤ j) : mt[j] = old[j] :=
  (h j hj).trans (if_neg (Nat.not_lt.mpr hle))

/-- A step that reads the array as the earlier steps left it computes the next new word: its operands are old or new by
the three ranges of R125. -/
theorem TwistedUpTo.step_word {i : Fin 624} (h : TwistedUpTo old i.val mt) :
    (mt[(i.val + 397) % 624]'(Nat.mod_lt _ (by decide))) ^^^
        mix mt[i.val] (mt[(i.val + 1) % 624]'(Nat.mod_lt _ (by decide))) = (twist old)[i.val] := by
  obtain ⟨i, hi⟩ := i
  rw [h.getElem_old hi (Nat.le_refl i)]
  by_cases hlow : i ≤ 226
  · have hxor : (i + 397) % 624 = i + 397 := by omega
    have hnext : (i + 1) % 624 = i + 1 := by omega
    simp only [hxor, hnext]
    rw [h.getElem_old _ (by simp), h.getElem_old _ (by simp), twist_low old i hlow]
  · have hxor : (i + 397) % 624 = i - 227 := by omega
    simp only [hxor]
    rw [h.getElem_new _ (by simp; omega)]
    by_cases hmid : i ≤ 622
    · have hnext : (i + 1) % 624 = i + 1 := by omega
      simp only [hnext]
      rw [h.getElem_old _ (by simp), twist_mid old i (by omega) hmid]
    · have hnext : (i + 1) % 624 = 0 := by omega
      simp only [hnext]
      rw [h.getElem_new _ (by simp; omega)]
      obtain rfl : i = 623 := by omega
      exact (twist_last old).symm

theorem TwistedUpTo.twistStep {i : Fin 624} (h : TwistedUpTo old i.val mt) :
    TwistedUpTo old (i.val + 1) (twistStep i mt) := by
  intro j hj
  rw [Machine.twistStep, h.step_word, Vector.getElem_set]
  split
  next heq =>
    subst heq
    rw [if_pos (Nat.lt_succ_self _)]
  next hne =>
    rw [h j hj]
    have hiff : j < i.val ↔ j < i.val + 1 := by omega
    simp only [hiff]

end

/-- Settles O31: the loop carries `TwistedUpTo` through all 624 steps. -/
theorem twistIsInPlaceLoop : Obligations.TwistIsInPlaceLoop := by
  unfold Obligations.TwistIsInPlaceLoop
  intro mt
  have hall : TwistedUpTo mt 624 (twistInPlace mt) :=
    loop_induction _ (TwistedUpTo mt) mt (fun _ _ => (if_neg (Nat.not_lt_zero _)).symm) (fun _ _ h => h.twistStep)
  ext j hj
  rw [hall.getElem_new hj hj]

/-! ## The commands -/

/-- Settles O33: the update of `MTSEED` writes the twister alone. -/
theorem mtseedConstructsGenerator : Obligations.MtseedConstructsGenerator := by
  unfold Obligations.MtseedConstructsGenerator
  exact fun s w => ⟨_, exec_mtseed w s, rfl, rfl, rfl, SameHash.refl s, SameSeed.refl s, SameGrid.refl s,
    SameErr.refl s, respond_answered_of rfl rfl rfl .ok _⟩

/-- Settles O34: an extraction twists at the cursor 0, and reads and advances the cursor. -/
theorem mtnextExtractsWord : Obligations.MtnextExtractsWord := by
  unfold Obligations.MtnextExtractsWord
  intro s h hv
  have hx := exec_mtnext_seeded hv
  rw [extractWord, readMt_of_lt _ _ h] at hx
  exact ⟨_, hx, rfl, nextIdx_toNat s.idx, hv, SameHash.refl s, SameSeed.refl s, SameGrid.refl s, SameErr.refl s,
    respond_answered_of rfl rfl rfl .ok _⟩

/-- Settles O35: it is refused by its prerequisite. -/
theorem mtnextNeedsSeededTwister : Obligations.MtnextNeedsSeededTwister := by
  unfold Obligations.MtnextNeedsSeededTwister
  exact fun s h => ⟨_, exec_mtnext_unseeded h, raise_raised s _ _⟩

end Sys2Proof.Machine

/-! PROOFS. The grid builder and the lookups, command by command (spec/42_grid_builder.md, spec/43_substitution.md): the
refusals (O39, O44), `SYMAT` (O41), `CODEFOR` (O43) and that no code word is 0 (O45); `XLATE` (O48) and where it folds
case (O49). -/

namespace Sys2Proof.Machine

/-! ## The refusals -/

/-- Settles O39: it is refused by its prerequisite, and an error changes no unit. -/
theorem gbuildNeedsSeed : Obligations.GbuildNeedsSeed := by
  unfold Obligations.GbuildNeedsSeed
  exact fun s h => ⟨_, exec_gbuild_unseeded h, raise_raised s _ _⟩

/-- Settles O44: the prerequisite is checked before the key. -/
theorem lookupsNeedGrid : Obligations.LookupsNeedGrid := by
  unfold Obligations.LookupsNeedGrid
  exact fun s u h => ⟨⟨_, exec_codefor_noGrid h u, raise_raised s _ _⟩, ⟨_, exec_xlate_noGrid h u, raise_raised s _ _⟩⟩

/-! ## Lookups -/

/-- The symbol in a cell, by its place in the order of the alphabet (R8, R33). -/
theorem symRom_gridCell_toNat {row col : Nat} (hr : row < 7) (hc : col < 5) :
    ((symRom[gridCell ⟨row, hr⟩ ⟨col, hc⟩]).setWidth 32).toNat =
      if row * 5 + col ≤ 25 then 0x41 + (row * 5 + col) else 0x31 + (row * 5 + col - 26) := by
  rw [BitVec.toNat_setWidth_of_le (by decide), symRom_toNat, gridCell_val]
  simp only [Nat.lt_succ_iff]

/-- Settles O41: in bounds the cell is read from the ROM, out of bounds there is no cell. -/
theorem symatReadsSymbol : Obligations.SymatReadsSymbol := by
  unfold Obligations.SymatReadsSymbol
  refine fun s row col => ⟨fun ⟨hr, hc⟩ => ?_, fun hout => ?_⟩
  · obtain ⟨hunits, herr, hans⟩ := respond_frame s .ok ((symRom[gridCell ⟨row.toNat, hr⟩ ⟨col.toNat, hc⟩]).setWidth 32)
    exact ⟨_, _, exec_symat_inside hr hc s, hunits, herr, hans, symRom_gridCell_toNat hr hc⟩
  · exact ⟨_, exec_symat_none (cellIndex_of_outside hout) s, respond_frame s .bounds 0#32⟩

/-- An answer of code `k`: `OK` with the four bytes of `CT[k]`, and nothing changed. -/
theorem respond_code_frame (s : State) (k : Fin 35) :
    SameUnits s (respond s .ok (pack s.ct[k])) ∧ SameErr s (respond s .ok (pack s.ct[k])) ∧
      Answered s (respond s .ok (pack s.ct[k])) [⟨.ok, pack s.ct[k]⟩] ∧
      ∀ j : Fin 4, byteOf (pack s.ct[k]) j.val = (s.ct[k])[j] := by
  obtain ⟨hunits, herr, hans⟩ := respond_frame s .ok (pack s.ct[k])
  exact ⟨hunits, herr, hans, byteOf_pack s.ct[k]⟩

/-- Settles O43: the unit is looked up as it stands. -/
theorem codeforLooksUpCode : Obligations.CodeforLooksUpCode := by
  unfold Obligations.CodeforLooksUpCode
  refine fun s u hg => ⟨fun k hk => ?_, fun hnone => ?_⟩
  · exact ⟨_, _, exec_codefor_some hg ((symIndex_eq_some_iff u k).mpr hk), respond_code_frame s k⟩
  · exact ⟨_, exec_codefor_none hg ((symIndex_eq_none_iff u).mpr (not_exists.mpr hnone)), respond_frame s .absent 0#32⟩

/-- The fold of a lower-case letter is a letter, so what folds to no symbol is not folded (R155, R156). -/
theorem upcase_of_symIndex_none {u : Word} (h : symIndex (upcase u) = none) : upcase u = u := by
  refine upcase_of_other fun hlower => ?_
  have hfold := upcase_toNat_of_lower hlower
  obtain ⟨_, hsome, _⟩ | ⟨_, hsome, _⟩ | ⟨_, hletter, _⟩ := symIndex_cases (upcase u)
  · exact nomatch h.symm.trans hsome
  · exact nomatch h.symm.trans hsome
  · omega

/-- Settles O48: the folded unit is looked up, and a unit that folds to no symbol is its own fold. -/
theorem xlateTransformsUnit : Obligations.XlateTransformsUnit := by
  unfold Obligations.XlateTransformsUnit
  refine fun s u hg => ⟨fun k hk => ?_, fun hnone => ?_⟩
  · exact ⟨_, _, exec_xlate_some hg ((symIndex_eq_some_iff _ k).mpr hk), respond_code_frame s k⟩
  · have hindex := (symIndex_eq_none_iff (upcase u)).mpr (not_exists.mpr hnone)
    have hx := exec_xlate_none hg hindex
    rw [upcase_of_symIndex_none hindex] at hx
    exact ⟨_, hx, respond_frame s .pass u⟩

/-! ## Case -/

/-- A lower-case letter is no symbol, and its fold is the letter of the same place in the alphabet. -/
theorem symIndex_of_lower {u : Word} (h : 0x61 ≤ u.toNat ∧ u.toNat ≤ 0x7A) :
    symIndex u = none ∧ ∃ k : Fin 35, symIndex (upcase u) = some k ∧ k.val = u.toNat - 0x61 := by
  have hfold := upcase_toNat_of_lower h
  constructor
  · obtain ⟨_, _, _, _, hhigh⟩ | ⟨_, _, _, _, hhigh⟩ | ⟨hnone, _⟩ := symIndex_cases u
    · omega
    · omega
    · exact hnone
  · obtain ⟨k, hk, hval, _⟩ | ⟨_, _, _, _, hhigh⟩ | ⟨_, hletter, _⟩ := symIndex_cases (upcase u)
    · exact ⟨k, hk, by omega⟩
    · omega
    · omega

/-- `XLATE` looks at the fold of its unit alone. -/
theorem exec_xlate_upcase (s : State) (u : Word) : exec (.xlate u) s = exec (.xlate (upcase u)) s := by
  cases hg : s.gridValid with
  | false => rw [exec_xlate_noGrid hg, exec_xlate_noGrid hg]
  | true =>
    cases h : symIndex (upcase u) with
    | some k => rw [exec_xlate_some hg h, exec_xlate_some hg ((upcase_upcase u).symm ▸ h)]
    | none => rw [exec_xlate_none hg h, exec_xlate_none hg ((upcase_upcase u).symm ▸ h), upcase_upcase]

/-- Settles O49: the fold is idempotent, and a lower-case letter is no symbol while its fold is one. -/
theorem xlateFoldsCaseCodeforDoesNot : Obligations.XlateFoldsCaseCodeforDoesNot := by
  unfold Obligations.XlateFoldsCaseCodeforDoesNot
  refine fun s u => ⟨exec_xlate_upcase s u, fun hg hlow hhigh => ?_⟩
  obtain ⟨hnone, k, hk, hval⟩ := symIndex_of_lower ⟨hlow, hhigh⟩
  exact ⟨exec_codefor_none hg hnone, k, exec_xlate_some hg hk, hval⟩

/-! ## Code words -/

/-- A byte belongs to at most one of the four classes of R9, and 0 to none. -/
theorem byteClasses_le (b : Byte) :
    (isUpperByte b).toNat + (isLowerByte b).toNat + (isDigitByte b).toNat + (isPunctByte b).toNat ≤
      (b != 0#8).toNat := by
  revert b
  decide +kernel

/-- So the bytes of a list that are not 0 are at least as many as its bytes of the four classes. -/
theorem countP_classes_le (bs : List Byte) :
    bs.countP isUpperByte + bs.countP isLowerByte + bs.countP isDigitByte + bs.countP isPunctByte ≤
      bs.countP (· != 0#8) := by
  induction bs with
  | nil => simp
  | cons b bs ih =>
    have hb := byteClasses_le b
    simp only [List.countP_cons]
    grind

/-- The classes of R9 account for all 78 bytes of a code alphabet, so none of them is 0. -/
theorem codeAlphabet_ne_zero (ca : CodeAlphabet) (c : Fin 78) : ca.bytes[c] ≠ 0#8 := by
  have hlegal := ca.legal
  simp only [legalAlphabet, Bool.and_eq_true, beq_iff_eq] at hlegal
  obtain ⟨⟨⟨⟨_, hupper⟩, hlower⟩, hdigit⟩, hpunct⟩ := hlegal
  have hsum := countP_classes_le ca.bytes.toList
  have hle := List.countP_le_length (p := (· != 0#8)) (l := ca.bytes.toList)
  have hlen : ca.bytes.toList.length = 78 := by simp
  have hall := List.countP_eq_length.mp (show ca.bytes.toList.countP (· != 0#8) = ca.bytes.toList.length by omega)
  simpa using hall ca.bytes[c] (by simp)

theorem pack_ne_zero {code : Vector Byte 4} (h : code[0] ≠ 0#8) : pack code ≠ 0#32 := by
  intro hzero
  have hbyte := byteOf_pack code 0
  rw [hzero] at hbyte
  exact h (hbyte.symm.trans (by decide))

/-- Settles O45: an `OK` answer is a packed code, whose characters are of the code alphabet by item 3 of R39. -/
theorem codeWordIsNotZero : Obligations.CodeWordIsNotZero := by
  unfold Obligations.CodeWordIsNotZero
  intro s t u d hinv hg ht hr
  cases h : symIndex u with
  | none =>
    obtain rfl := Host.Outcome.next.inj ((exec_codefor_none hg h).symm.trans ht)
    exact absurd ((respond_answered s .absent 0#32).response_unique hr) (by simp)
  | some k =>
    obtain rfl := Host.Outcome.next.inj ((exec_codefor_some hg h).symm.trans ht)
    obtain rfl : pack s.ct[k] = d := congrArg Response.data ((respond_answered s .ok _).response_unique hr)
    obtain ⟨c, hc⟩ := hinv.codes hg k 0
    exact pack_ne_zero (hc ▸ codeAlphabet_ne_zero Config.codeAlphabet c)

end Sys2Proof.Machine

/-! PROOFS. The bytewise transform against the software's (spec/43_substitution.md section 3): character by character,
`Transform` of the UTF-8 bytes is the UTF-8 bytes of what the software makes of the ASCII-uppercased character (O51). -/

namespace Sys2Proof.Machine

/-! ## Characters and their bytes -/

theorem char_toNat_lt (c : Char) : c.toNat < 0x110000 := by
  have h := c.valid
  simp only [UInt32.isValidChar, Nat.isValidChar] at h
  change c.val.toNat < 0x110000
  omega

theorem asciiUpper_toNat (c : Char) :
    (asciiUpper c).toNat = if 0x61 ≤ c.toNat ∧ c.toNat ≤ 0x7A then c.toNat - 0x20 else c.toNat := by
  unfold asciiUpper
  split
  next h =>
    rw [Char.toNat_ofNat, if_pos]
    exact .inl (by omega)
  next => rfl

theorem asciiUpper_of_other {c : Char} (h : ¬(0x61 ≤ c.toNat ∧ c.toNat ≤ 0x7A)) : asciiUpper c = c := if_neg h

theorem utf8_of_ascii {c : Char} (h : c.toNat < 0x80) : utf8 c = [BitVec.ofNat 8 c.toNat] := if_pos h

/-- Above ASCII every byte of a character is `0x80` or more. -/
theorem utf8_high {c : Char} (h : 0x80 ≤ c.toNat) : ∀ b ∈ utf8 c, 0x80 ≤ b.toNat := by
  have hlt := char_toNat_lt c
  unfold utf8
  rw [if_neg (by omega)]
  split_ifs <;>
    simp only [List.forall_mem_cons, BitVec.toNat_ofNat, List.not_mem_nil, false_imp_iff, implies_true, and_true] <;>
    omega

/-! ## Units that are no ASCII -/

theorem symIndex_of_high {u : Word} (h : 0x80 ≤ u.toNat) : symIndex u = none := by
  obtain ⟨_, _, _, _, hhigh⟩ | ⟨_, _, _, _, hhigh⟩ | ⟨hnone, _⟩ := symIndex_cases u
  · omega
  · omega
  · exact hnone

/-- Such a unit passes through. -/
theorem transformUnit_of_high (ct : Vector (Vector Byte 4) 35) {u : Word} (h : 0x80 ≤ u.toNat) :
    transformUnit ct u = [u] := by
  have hfold : upcase u = u := upcase_of_other (by omega)
  rw [transformUnit_of_none (hfold.symm ▸ symIndex_of_high h), hfold]

theorem transform_of_high (ct : Vector (Vector Byte 4) 35) {us : List Word} (h : ∀ u ∈ us, 0x80 ≤ u.toNat) :
    transform ct us = us := by
  induction us with
  | nil => rfl
  | cons u us ih =>
    obtain ⟨hu, hus⟩ := List.forall_mem_cons.mp h
    rw [transform_cons, transformUnit_of_high ct hu, ih hus, List.singleton_append]

/-! ## Character by character -/

/-- The bytes the software makes of one character of the uppercased text (R160). -/
def softUnit (ct : Vector (Vector Byte 4) 35) (c : Char) : List Byte :=
  match symIndex (BitVec.ofNat 32 c.toNat) with
  | some k => ct[k].toList
  | none => utf8 c

theorem softUnit_of_some {ct : Vector (Vector Byte 4) 35} {c : Char} {k : Fin 35}
    (h : symIndex (BitVec.ofNat 32 c.toNat) = some k) : softUnit ct c = ct[k].toList := by
  rw [softUnit, h]

theorem softUnit_of_none {ct : Vector (Vector Byte 4) 35} {c : Char}
    (h : symIndex (BitVec.ofNat 32 c.toNat) = none) : softUnit ct c = utf8 c := by
  rw [softUnit, h]

theorem softTransform_eq (ct : Vector (Vector Byte 4) 35) (upper : List Char → List Char) (cs : List Char) :
    softTransform ct upper cs = (upper cs).flatMap (softUnit ct) := rfl

/-- On ASCII the block's fold is the fold of the character (R155, R160). -/
theorem upcase_ofNat_toNat {c : Char} (h : c.toNat < 0x80) :
    upcase (BitVec.ofNat 32 c.toNat) = BitVec.ofNat 32 (asciiUpper c).toNat := by
  have hval : (BitVec.ofNat 32 c.toNat).toNat = c.toNat := Nat.mod_eq_of_lt (by omega)
  apply BitVec.eq_of_toNat_eq
  rw [asciiUpper_toNat]
  split
  next hlower =>
    rw [upcase_toNat_of_lower (hval.symm ▸ hlower), hval, BitVec.toNat_ofNat]
    omega
  next hother => rw [upcase_of_other (hval.symm ▸ hother)]

theorem asciiUpper_toNat_lt {c : Char} (h : c.toNat < 0x80) : (asciiUpper c).toNat < 0x80 := by
  rw [asciiUpper_toNat]
  split <;> omega

/-- The unit the host sends for an ASCII character. -/
theorem utf8_units_of_ascii {c : Char} (h : c.toNat < 0x80) :
    (utf8 c).map (fun b => b.setWidth 32) = [BitVec.ofNat 32 c.toNat] := by
  have hunit : (BitVec.ofNat 8 c.toNat).setWidth 32 = BitVec.ofNat 32 c.toNat := by
    apply BitVec.eq_of_toNat_eq
    simp only [BitVec.toNat_setWidth, BitVec.toNat_ofNat]
    omega
  rw [utf8_of_ascii h, List.map_singleton, hunit]

theorem transform_utf8_ascii (ct : Vector (Vector Byte 4) 35) {c : Char} (h : c.toNat < 0x80) :
    transform ct ((utf8 c).map (fun b => b.setWidth 32)) =
      (softUnit ct (asciiUpper c)).map (fun b => b.setWidth 32) := by
  have hfold := upcase_ofNat_toNat h
  rw [utf8_units_of_ascii h, transform_cons, transform_nil, List.append_nil]
  cases hk : symIndex (BitVec.ofNat 32 (asciiUpper c).toNat) with
  | some k => rw [transformUnit_of_some (hfold.symm ▸ hk), softUnit_of_some hk]
  | none =>
    rw [transformUnit_of_none (hfold.symm ▸ hk), softUnit_of_none hk, hfold,
      utf8_units_of_ascii (asciiUpper_toNat_lt h)]

theorem transform_utf8_high (ct : Vector (Vector Byte 4) 35) {c : Char} (h : 0x80 ≤ c.toNat) :
    transform ct ((utf8 c).map (fun b => b.setWidth 32)) =
      (softUnit ct (asciiUpper c)).map (fun b => b.setWidth 32) := by
  have hlt := char_toNat_lt c
  have hindex : symIndex (BitVec.ofNat 32 c.toNat) = none := symIndex_of_high (by rw [BitVec.toNat_ofNat]; omega)
  rw [asciiUpper_of_other (by omega), softUnit_of_none hindex]
  refine transform_of_high ct fun u hu => ?_
  obtain ⟨b, hb, rfl⟩ := List.mem_map.mp hu
  rw [BitVec.toNat_setWidth_of_le (by decide)]
  exact utf8_high h b hb

/-- The block makes of the bytes of a character what the software makes of its ASCII-uppercased form. -/
theorem transform_utf8 (ct : Vector (Vector Byte 4) 35) (c : Char) :
    transform ct ((utf8 c).map (fun b => b.setWidth 32)) =
      (softUnit ct (asciiUpper c)).map (fun b => b.setWidth 32) := by
  by_cases h : c.toNat < 0x80
  · exact transform_utf8_ascii ct h
  · exact transform_utf8_high ct (Nat.le_of_not_lt h)

theorem transform_append (ct : Vector (Vector Byte 4) 35) (us vs : List Word) :
    transform ct (us ++ vs) = transform ct us ++ transform ct vs := List.flatMap_append

/-- The same for a text. -/
theorem transform_utf8Text (ct : Vector (Vector Byte 4) 35) (cs : List Char) :
    transform ct ((utf8Text cs).map (fun b => b.setWidth 32)) =
      ((cs.map asciiUpper).flatMap (softUnit ct)).map (fun b => b.setWidth 32) := by
  induction cs with
  | nil => rfl
  | cons c cs ih =>
    rw [utf8Text, List.flatMap_cons, List.map_append, transform_append, transform_utf8, ← utf8Text, ih, List.map_cons,
      List.flatMap_cons, List.map_append]

theorem map_asciiUpper_of_no_lower {cs : List Char} (h : ∀ c ∈ cs, ¬(0x61 ≤ c.toNat ∧ c.toNat ≤ 0x7A)) :
    cs.map asciiUpper = cs :=
  (List.map_congr_left fun c hc => asciiUpper_of_other (h c hc)).trans (List.map_id cs)

/-- Settles O51: under both premises the text the software looks up is the ASCII-uppercased form of the one the block is
sent. -/
theorem xformAgreesWithSoftware : Obligations.XformAgreesWithSoftware := by
  unfold Obligations.XformAgreesWithSoftware
  refine fun ct upper cs => ⟨fun hascii => ?_, fun hupper => ?_⟩
  · rw [transform_utf8Text, softTransform_eq, hascii]
  · rw [transform_utf8Text, softTransform_eq, map_asciiUpper_of_no_lower hupper]

end Sys2Proof.Machine
